-- ==== Sys2Proof/Word.lean ====
section
/-! DEFINITION. The machine's words: the widest register width, bytes, instruction words and register numbers
(spec 10_state R50, 30_encoding R500, R507). -/

namespace Sys2Proof

/-- A register value. XLEN is 64 or 32 (00_scope R14); an RV32 value is held zero-extended (DESIGN CHOICE, safe: entry 19). -/
abbrev Word := BitVec 64

/-- The smallest addressable unit (20_memory R330). -/
abbrev Byte := BitVec 8

/-- An instruction word; every instruction is 32 bits long (30_encoding R500). -/
abbrev Inst := BitVec 32

/-- A register number (30_encoding R507). -/
abbrev Reg := BitVec 5

end Sys2Proof
end

