-- ==== Sys2Proof/Config.lean ====
section
/-! DEFINITION. The implementation's parameters (spec 00_scope R14), and the free values: constants without a body
that stand for what the spec leaves to the environment or to the implementation at each step. -/

namespace Sys2Proof

/-- What a region of the physical address space is (20_memory R351). A vacant address lies in no region. -/
inductive MemKind where
  | main
  | io
  deriving DecidableEq, Repr

/-- The AMO class of a region (20_memory R353), weakest first. -/
inductive AmoClass where
  | none
  | swap
  | logical
  | arithmetic
  deriving DecidableEq, Repr

/-- The reservability of a region (20_memory R354). -/
inductive RsrvClass where
  | none
  | nonEventual
  | eventual
  deriving DecidableEq, Repr

/-- The memory-ordering attribute of a region (20_memory R356). -/
inductive MemOrdering where
  | rvwmo
  | rvtso
  /-- Of incoherent main memory: implementation-defined, which `Config.valid` refuses. -/
  | incoherent
  /-- I/O accesses are observed in a manner like RVWMO. -/
  | relaxed
  /-- I/O accesses are observed in program order, by channel number. -/
  | strong (channel : Nat)
  deriving DecidableEq, Repr

/-- A page-based memory type (22_translation R462). -/
inductive Pbmt where
  /-- The attributes of the physical address. -/
  | pma
  | nc
  | io
  deriving DecidableEq, Repr

/-- One region of the physical memory attribute map (20_memory R350, R351). What only other agents can observe of
ordering, coherence and cacheability acts on no state of one hart (entry 12). -/
structure Region where
  base : Nat
  size : Nat
  kind : MemKind
  /-- Widths in bytes of the supported data reads. -/
  readWidths : List Nat
  /-- Widths in bytes of the supported data writes. -/
  writeWidths : List Nat
  /-- Widths in bytes of the supported execute accesses: instruction fetches, and HLVX (22_translation R485). -/
  execWidths : List Nat
  /-- Hardware page-table reads are supported. -/
  ptRead : Bool
  /-- Hardware page-table writes are supported. -/
  ptWrite : Bool
  /-- Widths in bytes of the supported misaligned loads. -/
  readMisaligned : List Nat
  /-- Widths in bytes of the supported misaligned stores. -/
  writeMisaligned : List Nat
  /-- Widths in bytes of the supported misaligned execute accesses. -/
  execMisaligned : List Nat
  amo : AmoClass
  rsrv : RsrvClass
  ordering : MemOrdering
  /-- The controller that keeps the region coherent, if any does (R357). -/
  coherence : Option Nat
  cacheable : Bool
  /-- Reads have no side effect, so a speculative read is allowed (R358). -/
  idempotentReads : Bool
  /-- Writes have no side effect, so a speculative write is allowed. -/
  idempotentWrites : Bool
  deriving DecidableEq, Repr

/-- What a misaligned load or store does: MISALIGNED of R14 (20_memory R344). -/
inductive Misaligned where
  | addressMisaligned
  | accessFault
  | supported
  deriving DecidableEq, Repr

/-- One endianness bit: ENDIAN_BITS of R14 (11_csr_machine R121). -/
inductive EndianBit where
  | zero
  | one
  | writable
  deriving DecidableEq, Repr

/-- The parameters of R14. Those that the hardware specified fixes (R11; D3, D6, D32 of 92_eei_decisions) are fields too;
`valid` holds them to the one value the spec gives an effect. -/
structure Config where
  /-- XLEN_DYNAMIC: false (11_csr_machine R102). -/
  xlenDynamic : Bool
  /-- MISA_WRITABLE, the writable Extensions bits: none (11_csr_machine R105). -/
  misaWritable : BitVec 26
  /-- IALIGN in bits: 32, C being absent. -/
  ialign : Nat
  /-- ILEN in bits: 32. -/
  ilen : Nat
  /-- MXLEN is 64; otherwise 32. -/
  rv64 : Bool
  hasS : Bool
  hasU : Bool
  hasH : Bool
  rve : Bool
  extM : Bool
  extZmmul : Bool
  extA : Bool
  extZifencei : Bool
  /-- PAUSE is a no-op either way. -/
  extZihintpause : Bool
  /-- The NTL instructions are no-ops either way. -/
  extZihintntl : Bool
  extSvnapot : Bool
  extSvpbmt : Bool
  extSvinval : Bool
  /-- Physical address width. -/
  palen : Nat
  /-- Supported paged `satp.MODE` values (1 Sv32; 8 Sv39, 9 Sv48, 10 Sv57); Bare is always supported. -/
  satpModes : List Nat
  /-- Supported paged `hgatp.MODE` values, numbered as `satpModes`. -/
  hgatpModes : List Nat
  asidLen : Nat
  vmidLen : Nat
  geiLen : Nat
  /-- 0, 16 or 64. -/
  pmpEntries : Nat
  pmpG : Nat
  pma : List Region
  misaligned : Misaligned
  /-- Address-misaligned outranks page and access faults (MISALIGNED_PRIORITY). -/
  misalignedFirst : Bool
  mbe : EndianBit
  sbe : EndianBit
  ube : EndianBit
  vsbe : EndianBit
  vsube : EndianBit
  /-- AD_UPDATE: hardware sets A and D; otherwise a page fault asks software to. -/
  adUpdate : Bool
  /-- Vectored is a supported MODE of mtvec. -/
  mtvecVectored : Bool
  /-- Vectored is a supported MODE of stvec and vstvec. -/
  stvecVectored : Bool
  /-- The writable BASE bits of mtvec. -/
  mtvecBase : Word
  /-- The writable BASE bits of stvec and vstvec. -/
  stvecBase : Word
  /-- The BASE bits of mtvec that may be set with MODE = Vectored: its extra alignment clears the others (11_csr_machine R127). -/
  mtvecVectoredBase : Word
  /-- Those of stvec and vstvec (12_csr_supervisor R209). -/
  stvecVectoredBase : Word
  medelegMask : Word
  midelegMask : Word
  hedelegMask : Word
  /-- XTVAL_POLICY: bit c set when exception c writes its informative value, else zero is written. -/
  xtvalMask : Word
  /-- XTINST_POLICY: transformed instructions are written where permitted. -/
  tinstTransform : Bool
  /-- XTINST_POLICY: pseudoinstructions are written for implicit page-table accesses. -/
  tinstPseudo : Bool
  /-- HPM_COUNTERS: bit n set when mhpmcounter n and mhpmevent n are implemented (n from 3 to 31). -/
  hpmMask : BitVec 32
  hasMcountinhibit : Bool
  timeCsr : Bool
  mtimeBase : Nat
  mtimecmpBase : Nat
  msipBase : Nat
  /-- How many harts have an mtimecmp and an msip register (60_exceptions R852, R853). -/
  harts : Nat
  resetVector : Word
  nmiVector : Word
  /-- The exception code an NMI writes (60_exceptions R870). -/
  nmiCause : Nat
  mvendorid : Word
  marchid : Word
  mimpid : Word
  /-- MHARTID: the hart index. -/
  mhartid : Word
  mconfigptr : Word
  /-- WFI_POLICY: WFI may stall; otherwise it never does. -/
  wfiMayStall : Bool
  /-- WFI_POLICY: the time limit of a WFI that TW, VTW or U-mode restricts is zero (46_privileged R747). -/
  wfiLimitZero : Bool
  /-- RESERVATION_SET: the reservation covers the aligned block of 2^rsetLog2 bytes. -/
  rsetLog2 : Nat
  /-- SC_SPURIOUS_FAIL. -/
  scMayFail : Bool
  /-- XRET_CLEARS_RESERVATION. -/
  xretClears : Bool
  /-- ENVCFG_FIELDS: FIOM is writable where its register exists. -/
  fiomWritable : Bool
  /-- ENVCFG_FIELDS: STCE, CBIE, CBCFE, CBZE are implemented: false (11_csr_machine R163). -/
  envcfgOthers : Bool
  deriving DecidableEq, Repr

namespace Config

/-- Main memory of the reference attribute map (20_memory R352); base and size are open parameters (entry 3). R352 does not
say that it is cacheable, nor which controller keeps it coherent (DESIGN CHOICE, safe: entry 46). -/
def ram : Region where
  base := 0x80000000
  size := 0x10000
  kind := .main
  readWidths := [1, 2, 4, 8]
  writeWidths := [1, 2, 4, 8]
  execWidths := [1, 2, 4, 8]
  ptRead := true
  ptWrite := true
  readMisaligned := []
  writeMisaligned := []
  execMisaligned := []
  amo := .arithmetic
  rsrv := .eventual
  ordering := .rvwmo
  coherence := some 0
  cacheable := true
  idempotentReads := true
  idempotentWrites := true

/-- The I/O region that holds mtime, mtimecmp and msip (20_memory R352): from the lowest of their addresses to the end of
the highest. Writes of mtimecmp and msip have effects (R359), so they are not idempotent. R352 does not say that it is not
cacheable, nor which controller keeps it coherent (DESIGN CHOICE, safe: entry 46). -/
def timerRegion (widths : List Nat) : Region where
  base := 0x02000000
  size := 0xC000
  kind := .io
  readWidths := widths
  writeWidths := widths
  execWidths := []
  ptRead := false
  ptWrite := false
  readMisaligned := []
  writeMisaligned := []
  execMisaligned := []
  amo := .none
  rsrv := .none
  ordering := .strong 0
  coherence := some 0
  cacheable := false
  idempotentReads := true
  idempotentWrites := false

/-- The "value taken" column of R14 at MXLEN = 64. The OPEN parameters (addresses of memory and registers, vectors)
hold the values of the spec's test vectors (DESIGN CHOICE, safe: every statement is over all configurations; entry 3). -/
def reference : Config where
  xlenDynamic := false
  misaWritable := 0
  ialign := 32
  ilen := 32
  rv64 := true
  hasS := true
  hasU := true
  hasH := true
  rve := false
  extM := true
  extZmmul := true
  extA := true
  extZifencei := true
  extZihintpause := true
  extZihintntl := true
  extSvnapot := true
  extSvpbmt := true
  extSvinval := true
  palen := 56
  satpModes := [8, 9, 10]
  hgatpModes := [8, 9, 10]
  asidLen := 0
  vmidLen := 0
  geiLen := 0
  pmpEntries := 16
  pmpG := 0
  pma := [ram, timerRegion [4, 8]]
  misaligned := .addressMisaligned
  misalignedFirst := true
  mbe := .zero
  sbe := .zero
  ube := .zero
  vsbe := .zero
  vsube := .zero
  adUpdate := false
  mtvecVectored := true
  stvecVectored := true
  mtvecBase := 0xFFFFFFFFFFFFFFFC
  stvecBase := 0xFFFFFFFFFFFFFFFC
  mtvecVectoredBase := 0xFFFFFFFFFFFFFFFC
  stvecVectoredBase := 0xFFFFFFFFFFFFFFFC
  medelegMask := 0xFFFFFFFFFFFFFFFF
  midelegMask := 0xFFFFFFFFFFFFFFFF
  hedelegMask := 0xFFFFFFFFFFFFFFFF
  xtvalMask := 0xFFFFFFFFFFFFFFFF
  tinstTransform := true
  tinstPseudo := true
  hpmMask := 0
  hasMcountinhibit := true
  timeCsr := true
  mtimeBase := 0x0200BFF8
  mtimecmpBase := 0x02004000
  msipBase := 0x02000000
  harts := 1
  resetVector := 0x80000000
  nmiVector := 0x80000100
  nmiCause := 0
  mvendorid := 0
  marchid := 0
  mimpid := 0
  mhartid := 0
  mconfigptr := 0
  wfiMayStall := true
  wfiLimitZero := true
  rsetLog2 := 6
  scMayFail := true
  xretClears := false
  fiomWritable := true
  envcfgOthers := false

/-- The reference configuration at MXLEN = 32: R14's values that depend on MXLEN changed. -/
def reference32 : Config :=
  { reference with
    rv64 := false
    extSvnapot := false
    extSvpbmt := false
    extSvinval := false
    palen := 34
    satpModes := [1]
    hgatpModes := [1]
    pma := [ram, timerRegion [4]] }

/-- XLEN in bits (every mode's, XLEN_DYNAMIC being false: 00_scope R16). -/
def xlen (c : Config) : Nat := if c.rv64 then 64 else 32

/-- Page-based translation is implemented. -/
def hasPaging (c : Config) : Bool := c.hasS && !c.satpModes.isEmpty

/-- The largest supported ASID width, R226. -/
def asidMax (c : Config) : Nat := if c.rv64 then 16 else 9

/-- The largest supported VMID width, R292. -/
def vmidMax (c : Config) : Nat := if c.rv64 then 14 else 7

/-- The bytes from `a` up lie in one I/O region of the map. -/
def inIo (c : Config) (a n : Nat) : Bool :=
  c.pma.any fun r => r.kind == .io && decide (r.base ≤ a) && decide (a + n ≤ r.base + r.size)

/-- The two ranges of bytes have none in common. -/
def apart (a n b m : Nat) : Bool := decide (a + n ≤ b) || decide (b + m ≤ a)

/-- Where the memory-mapped registers may be (D24 of 92_eei_decisions): aligned, in I/O regions, apart from one another. -/
def devicesPlaced (c : Config) : Bool :=
  c.mtimeBase % 8 == 0 && c.mtimecmpBase % 8 == 0 && c.msipBase % 4 == 0 &&
  c.inIo c.mtimeBase 8 && c.inIo c.mtimecmpBase (8 * c.harts) && c.inIo c.msipBase (4 * c.harts) &&
  apart c.mtimeBase 8 c.mtimecmpBase (8 * c.harts) && apart c.mtimeBase 8 c.msipBase (4 * c.harts) &&
  apart c.mtimecmpBase (8 * c.harts) c.msipBase (4 * c.harts)

/-- The region's ordering goes with its kind, and main memory is coherent: R356, R382 and row 8 of A1 in
93_implementation_defined refuse incoherent main memory. -/
def orderingLegal (r : Region) : Bool :=
  match r.kind, r.ordering with
  | .main, .rvwmo => r.coherence.isSome
  | .main, .rvtso => r.coherence.isSome
  | .io, .relaxed => true
  | .io, .strong _ => true
  | _, _ => false

/-- XTVAL_POLICY: the exception writes its informative value (60_exceptions R862). -/
def informative (c : Config) (code : Nat) : Bool := c.xtvalMask.getLsbD code

/-- The exceptions that may have an informative value and that this hart can raise (60_exceptions R862). -/
def informativeCauses (c : Config) : List Nat :=
  [0, 1, 2, 3, 5, 7] ++ (if c.misaligned = .addressMisaligned then [4, 6] else []) ++
    (if c.hasPaging then [12, 13, 15] else []) ++ (if c.hasH then [22] else []) ++
    (if c.hasH && !c.hgatpModes.isEmpty then [20, 21, 23] else [])

/-- Some exception sets mtval to a nonzero value; otherwise mtval is read-only zero (11_csr_machine R156), which the
hypervisor extension forbids (13_csr_hypervisor R250). -/
def mtvalWritable (c : Config) : Bool := c.informativeCauses.any c.informative

/-- The legal ranges of R14's third column, and the values the hardware specified fixes. -/
def valid (c : Config) : Bool :=
  !c.xlenDynamic && c.misaWritable == 0 && c.ialign == 32 && c.ilen == 32 && !c.envcfgOthers &&
  (!c.hasS || c.hasU) && (!c.hasH || (c.hasS && !c.rve && c.hasPaging && c.mtvalWritable)) && (!c.extM || c.extZmmul) &&
  c.palen ≤ (if c.rv64 then 56 else 34) &&
  (c.pma.all fun r => decide (r.base + r.size ≤ 2 ^ c.palen) && orderingLegal r) &&
  (if c.rv64 then c.satpModes == [] || c.satpModes == [8] || c.satpModes == [8, 9] || c.satpModes == [8, 9, 10]
    else c.satpModes == [] || c.satpModes == [1]) &&
  c.hgatpModes.all (fun m => if c.rv64 then m == 8 || m == 9 || m == 10 else m == 1) &&
  (!(c.extSvnapot || c.extSvpbmt) || (c.rv64 && c.hasPaging)) && (!c.extSvinval || c.hasS) &&
  c.asidLen ≤ c.asidMax && c.vmidLen ≤ c.vmidMax && c.geiLen < c.xlen &&
  (c.pmpEntries == 0 || c.pmpEntries == 16 || c.pmpEntries == 64) &&
  3 ≤ c.rsetLog2 && c.rsetLog2 ≤ 12 &&
  c.resetVector.extractLsb' 0 2 == 0 && c.nmiVector.extractLsb' 0 2 == 0 && c.mtvecBase.extractLsb' 0 2 == 0 &&
  c.stvecBase.extractLsb' 0 2 == 0 &&
  c.devicesPlaced && decide (c.mhartid.toNat < c.harts) && decide (c.nmiCause < 2 ^ (c.xlen - 1)) &&
  (c.rv64 || (c.resetVector.extractLsb' 32 32 == 0 && c.nmiVector.extractLsb' 32 32 == 0))

/-! ### Free values

Each is a constant with no body, all but `hpmSupports` applied to the counter `State.draws`, so that every theorem holds
whatever the environment or the implementation chooses (marks and risks: entries 6 to 11). A claim that compares two runs
holds only of harts whose choices do not depend on the data in which the runs differ (DESIGN CHOICE, unsafe for such a claim:
entry 21). The advances of time may depend on it (44_m R699): `mtimeAdvance`, `cycleAdvance` and `hpmAdvance` are applied to
the whole state and stand after it in Machine/State.lean. -/

/-- Whether an SC with a valid reservation fails spuriously (45_a R712). What R710 asks of it over a run is `EventualSuccess`. -/
opaque scFails : Nat → Bool

/-- Whether a stalled hart resumes although no enabled interrupt is pending (46_privileged R748). -/
opaque wfiWakes : Nat → Bool

/-- Whether a WFI under a time limit that is not zero completes within it although no enabled interrupt is pending
(46_privileged R747). -/
opaque wfiWithinLimit : Nat → Bool

/-- The byte at an offset of a read of a device that the spec does not describe (20_memory R359). -/
opaque deviceByte : Nat → Nat → Byte

/-- Which of the values the translation cache allows a page-table read returns (22_translation R470); 0 is memory's. -/
opaque tcChoice : Nat → Nat

/-- Which of the values an instruction word held since the last FENCE.I a fetch returns (20_memory R385); 0 is the current one. -/
opaque fetchChoice : Nat → Nat

/-- Which of the unsynchronised PMP settings an access is checked against (21_pmp R417); 0 is the current one. -/
opaque pmpChoice : Nat → Nat

/-- The value henvcfg.PBMTE takes when menvcfg.PBMTE rises (10_state R69, 13_csr_hypervisor R281). -/
opaque freeBit : Nat → Bool

/-- Whether the platform supports an event selector for counter n; 0, no event, it always supports (11_csr_machine R143). -/
opaque hpmSupports : Nat → Word → Bool

end Config

end Sys2Proof
end

