-- ==== Sys2Proof/Syntax.lean ====
section
/-! DEFINITION. The instructions: one constructor per row of spec/opcode_table.json, every field of the word an argument
(30_encoding R504 to R513). Fields the hardware ignores are kept, so that a word and its instruction determine each other. -/

namespace Sys2Proof

/-- An instruction. `imm` of a branch is bits 12:1 of the offset, of JAL bits 20:1, of LUI and AUIPC bits 31:12 (R505).
`pred` and `succ` are the bits I, O, R, W, most significant first (R606). -/
inductive Instr where
  -- Upper immediates and jumps (40_rv32i R552, R553, R576, R577).
  | lui (rd : Reg) (imm : BitVec 20)
  | auipc (rd : Reg) (imm : BitVec 20)
  | jal (rd : Reg) (imm : BitVec 20)
  | jalr (rd rs1 : Reg) (imm : BitVec 12)
  -- Conditional branches (40_rv32i R578 to R584).
  | beq (rs1 rs2 : Reg) (imm : BitVec 12)
  | bne (rs1 rs2 : Reg) (imm : BitVec 12)
  | blt (rs1 rs2 : Reg) (imm : BitVec 12)
  | bge (rs1 rs2 : Reg) (imm : BitVec 12)
  | bltu (rs1 rs2 : Reg) (imm : BitVec 12)
  | bgeu (rs1 rs2 : Reg) (imm : BitVec 12)
  -- Loads and stores (40_rv32i R590 to R598, 41_rv64i R631 to R633).
  | lb (rd rs1 : Reg) (imm : BitVec 12)
  | lh (rd rs1 : Reg) (imm : BitVec 12)
  | lw (rd rs1 : Reg) (imm : BitVec 12)
  | lbu (rd rs1 : Reg) (imm : BitVec 12)
  | lhu (rd rs1 : Reg) (imm : BitVec 12)
  | ld (rd rs1 : Reg) (imm : BitVec 12)
  | lwu (rd rs1 : Reg) (imm : BitVec 12)
  | sb (rs1 rs2 : Reg) (imm : BitVec 12)
  | sh (rs1 rs2 : Reg) (imm : BitVec 12)
  | sw (rs1 rs2 : Reg) (imm : BitVec 12)
  | sd (rs1 rs2 : Reg) (imm : BitVec 12)
  -- Integer register-immediate (40_rv32i R554 to R562).
  | addi (rd rs1 : Reg) (imm : BitVec 12)
  | slti (rd rs1 : Reg) (imm : BitVec 12)
  | sltiu (rd rs1 : Reg) (imm : BitVec 12)
  | xori (rd rs1 : Reg) (imm : BitVec 12)
  | ori (rd rs1 : Reg) (imm : BitVec 12)
  | andi (rd rs1 : Reg) (imm : BitVec 12)
  | slli (rd rs1 : Reg) (shamt : BitVec 6)
  | srli (rd rs1 : Reg) (shamt : BitVec 6)
  | srai (rd rs1 : Reg) (shamt : BitVec 6)
  -- Integer register-register (40_rv32i R563 to R572).
  | add (rd rs1 rs2 : Reg)
  | sub (rd rs1 rs2 : Reg)
  | sll (rd rs1 rs2 : Reg)
  | slt (rd rs1 rs2 : Reg)
  | sltu (rd rs1 rs2 : Reg)
  | xor (rd rs1 rs2 : Reg)
  | srl (rd rs1 rs2 : Reg)
  | sra (rd rs1 rs2 : Reg)
  | or (rd rs1 rs2 : Reg)
  | and (rd rs1 rs2 : Reg)
  -- NOP, fences, environment call and breakpoint (R575, R606, R607, R653, R650, R740, R741).
  | nop
  | fence (fm pred succ : BitVec 4) (rs1 rd : Reg)
  | fenceTso
  | pause
  | fenceI (imm : BitVec 12) (rs1 rd : Reg)
  | ecall
  | ebreak
  -- RV64I word instructions (41_rv64i R622 to R630).
  | addiw (rd rs1 : Reg) (imm : BitVec 12)
  | slliw (rd rs1 : Reg) (shamt : BitVec 5)
  | srliw (rd rs1 : Reg) (shamt : BitVec 5)
  | sraiw (rd rs1 : Reg) (shamt : BitVec 5)
  | addw (rd rs1 rs2 : Reg)
  | subw (rd rs1 rs2 : Reg)
  | sllw (rd rs1 rs2 : Reg)
  | srlw (rd rs1 rs2 : Reg)
  | sraw (rd rs1 rs2 : Reg)
  -- Non-temporal hints (42_zifencei_hints R655).
  | ntlP1
  | ntlPall
  | ntlS1
  | ntlAll
  -- Zicsr (43_zicsr R670 to R675).
  | csrrw (rd rs1 : Reg) (csr : BitVec 12)
  | csrrs (rd rs1 : Reg) (csr : BitVec 12)
  | csrrc (rd rs1 : Reg) (csr : BitVec 12)
  | csrrwi (rd : Reg) (uimm : BitVec 5) (csr : BitVec 12)
  | csrrsi (rd : Reg) (uimm : BitVec 5) (csr : BitVec 12)
  | csrrci (rd : Reg) (uimm : BitVec 5) (csr : BitVec 12)
  -- M extension (44_m R682 to R696).
  | mul (rd rs1 rs2 : Reg)
  | mulh (rd rs1 rs2 : Reg)
  | mulhsu (rd rs1 rs2 : Reg)
  | mulhu (rd rs1 rs2 : Reg)
  | div (rd rs1 rs2 : Reg)
  | divu (rd rs1 rs2 : Reg)
  | rem (rd rs1 rs2 : Reg)
  | remu (rd rs1 rs2 : Reg)
  | mulw (rd rs1 rs2 : Reg)
  | divw (rd rs1 rs2 : Reg)
  | divuw (rd rs1 rs2 : Reg)
  | remw (rd rs1 rs2 : Reg)
  | remuw (rd rs1 rs2 : Reg)
  -- A extension (45_a R703 to R734).
  | lrW (aq rl : Bool) (rd rs1 : Reg)
  | scW (aq rl : Bool) (rd rs1 rs2 : Reg)
  | amoswapW (aq rl : Bool) (rd rs1 rs2 : Reg)
  | amoaddW (aq rl : Bool) (rd rs1 rs2 : Reg)
  | amoxorW (aq rl : Bool) (rd rs1 rs2 : Reg)
  | amoandW (aq rl : Bool) (rd rs1 rs2 : Reg)
  | amoorW (aq rl : Bool) (rd rs1 rs2 : Reg)
  | amominW (aq rl : Bool) (rd rs1 rs2 : Reg)
  | amomaxW (aq rl : Bool) (rd rs1 rs2 : Reg)
  | amominuW (aq rl : Bool) (rd rs1 rs2 : Reg)
  | amomaxuW (aq rl : Bool) (rd rs1 rs2 : Reg)
  | lrD (aq rl : Bool) (rd rs1 : Reg)
  | scD (aq rl : Bool) (rd rs1 rs2 : Reg)
  | amoswapD (aq rl : Bool) (rd rs1 rs2 : Reg)
  | amoaddD (aq rl : Bool) (rd rs1 rs2 : Reg)
  | amoxorD (aq rl : Bool) (rd rs1 rs2 : Reg)
  | amoandD (aq rl : Bool) (rd rs1 rs2 : Reg)
  | amoorD (aq rl : Bool) (rd rs1 rs2 : Reg)
  | amominD (aq rl : Bool) (rd rs1 rs2 : Reg)
  | amomaxD (aq rl : Bool) (rd rs1 rs2 : Reg)
  | amominuD (aq rl : Bool) (rd rs1 rs2 : Reg)
  | amomaxuD (aq rl : Bool) (rd rs1 rs2 : Reg)
  -- Trap return, WFI and SFENCE.VMA (46_privileged R744 to R750).
  | sret
  | mret
  | wfi
  | sfenceVma (rs1 rs2 : Reg)
  -- Svinval (47_svinval R771 to R777).
  | sinvalVma (rs1 rs2 : Reg)
  | sfenceWInval
  | sfenceInvalIr
  | hinvalVvma (rs1 rs2 : Reg)
  | hinvalGvma (rs1 rs2 : Reg)
  -- Hypervisor fences and virtual-machine loads and stores (48_hypervisor R784 to R799).
  | hfenceVvma (rs1 rs2 : Reg)
  | hfenceGvma (rs1 rs2 : Reg)
  | hlvB (rd rs1 : Reg)
  | hlvBu (rd rs1 : Reg)
  | hlvH (rd rs1 : Reg)
  | hlvHu (rd rs1 : Reg)
  | hlvxHu (rd rs1 : Reg)
  | hlvW (rd rs1 : Reg)
  | hlvWu (rd rs1 : Reg)
  | hlvxWu (rd rs1 : Reg)
  | hlvD (rd rs1 : Reg)
  | hsvB (rs1 rs2 : Reg)
  | hsvH (rs1 rs2 : Reg)
  | hsvW (rs1 rs2 : Reg)
  | hsvD (rs1 rs2 : Reg)
  deriving DecidableEq, Repr

end Sys2Proof
end

