-- ==== Sys2Proof/WellFormed.lean ====
section
/-! DEFINITION. Which terms of `Instr` are the reading of a word. Four rows of the opcode table name single words that
also match a wider row (30_encoding R513, R530); the word belongs to the narrower row, so the wider constructor with those
operands is ill-formed (entry 18). Every other operand range is the type of its field. -/

namespace Sys2Proof

/-- NOP's word is not read as an ADDI (40_rv32i R575). -/
def Instr.addiOk (rd rs1 : Reg) (imm : BitVec 12) : Bool := !(rd == 0 && rs1 == 0 && imm == 0)

/-- The words of NTL.P1, NTL.PALL, NTL.S1 and NTL.ALL are not read as an ADD (42_zifencei_hints R655). -/
def Instr.addOk (rd rs1 rs2 : Reg) : Bool :=
  !(rd == 0 && rs1 == 0 && (rs2 == 2 || rs2 == 3 || rs2 == 4 || rs2 == 5))

/-- The words of FENCE.TSO and PAUSE are not read as a FENCE (40_rv32i R607, 42_zifencei_hints R653). -/
def Instr.fenceOk (fm pred succ : BitVec 4) (rs1 rd : Reg) : Bool :=
  !(rd == 0 && rs1 == 0 && ((fm == 8 && pred == 3 && succ == 3) || (fm == 0 && pred == 1 && succ == 0)))

/-- The term is the reading of some word. -/
def Instr.wf : Instr → Bool
  | .addi rd rs1 imm => addiOk rd rs1 imm
  | .add rd rs1 rs2 => addOk rd rs1 rs2
  | .fence fm pred succ rs1 rd => fenceOk fm pred succ rs1 rd
  | _ => true

end Sys2Proof
end

