-- ==== Sys2Proof/Decode.lean ====
section
/-! DEFINITION. Decoding and encoding (30_encoding R504 to R518): a word is cut into the fields of the R format, the
immediates are put together from them, and the opcode table's rows are read by opcode, funct3 and funct7. -/

namespace Sys2Proof

/-- A word cut into the fields of the R format (R504). -/
structure Raw where
  f7 : BitVec 7
  rs2 : Reg
  rs1 : Reg
  f3 : BitVec 3
  rd : Reg
  op : BitVec 7
  deriving DecidableEq, Repr

def unpack (w : Inst) : Raw where
  f7 := w.extractLsb' 25 7
  rs2 := w.extractLsb' 20 5
  rs1 := w.extractLsb' 15 5
  f3 := w.extractLsb' 12 3
  rd := w.extractLsb' 7 5
  op := w.extractLsb' 0 7

def pack (r : Raw) : Inst := r.f7 ++ r.rs2 ++ r.rs1 ++ r.f3 ++ r.rd ++ r.op

/-! ### Immediates (R505), each with the way back into the fields -/

/-- I format: bits 31:20. -/
def Raw.immI (r : Raw) : BitVec 12 := r.f7 ++ r.rs2

/-- S format: bits 31:25 and 11:7. -/
def Raw.immS (r : Raw) : BitVec 12 := r.f7 ++ r.rd

/-- B format: offset bits 12:1 from bits 31, 7, 30:25 and 11:8. -/
def Raw.immB (r : Raw) : BitVec 12 :=
  r.f7.extractLsb' 6 1 ++ r.rd.extractLsb' 0 1 ++ r.f7.extractLsb' 0 6 ++ r.rd.extractLsb' 1 4

/-- U format: bits 31:12. -/
def Raw.immU (r : Raw) : BitVec 20 := r.f7 ++ r.rs2 ++ r.rs1 ++ r.f3

/-- J format: offset bits 20:1 from bits 31, 19:12, 20 and 30:21. -/
def Raw.immJ (r : Raw) : BitVec 20 :=
  r.f7.extractLsb' 6 1 ++ (r.rs1 ++ r.f3) ++ r.rs2.extractLsb' 0 1 ++ (r.f7.extractLsb' 0 6 ++ r.rs2.extractLsb' 1 4)

/-- The 6-bit shift amount, bits 25:20 (R506). -/
def Raw.shamt (r : Raw) : BitVec 6 := r.f7.extractLsb' 0 1 ++ r.rs2

def rawI (op : BitVec 7) (f3 : BitVec 3) (rd rs1 : Reg) (imm : BitVec 12) : Raw where
  f7 := imm.extractLsb' 5 7
  rs2 := imm.extractLsb' 0 5
  rs1 := rs1
  f3 := f3
  rd := rd
  op := op

def rawS (op : BitVec 7) (f3 : BitVec 3) (rs1 rs2 : Reg) (imm : BitVec 12) : Raw where
  f7 := imm.extractLsb' 5 7
  rs2 := rs2
  rs1 := rs1
  f3 := f3
  rd := imm.extractLsb' 0 5
  op := op

def rawB (op : BitVec 7) (f3 : BitVec 3) (rs1 rs2 : Reg) (imm : BitVec 12) : Raw where
  f7 := imm.extractLsb' 11 1 ++ imm.extractLsb' 4 6
  rs2 := rs2
  rs1 := rs1
  f3 := f3
  rd := imm.extractLsb' 0 4 ++ imm.extractLsb' 10 1
  op := op

def rawU (op : BitVec 7) (rd : Reg) (imm : BitVec 20) : Raw where
  f7 := imm.extractLsb' 13 7
  rs2 := imm.extractLsb' 8 5
  rs1 := imm.extractLsb' 3 5
  f3 := imm.extractLsb' 0 3
  rd := rd
  op := op

def rawJ (op : BitVec 7) (rd : Reg) (imm : BitVec 20) : Raw where
  f7 := imm.extractLsb' 19 1 ++ imm.extractLsb' 4 6
  rs2 := imm.extractLsb' 0 4 ++ imm.extractLsb' 10 1
  rs1 := imm.extractLsb' 14 5
  f3 := imm.extractLsb' 11 3
  rd := rd
  op := op

def rawR (op : BitVec 7) (f3 : BitVec 3) (f7 : BitVec 7) (rd rs1 rs2 : Reg) : Raw where
  f7 := f7
  rs2 := rs2
  rs1 := rs1
  f3 := f3
  rd := rd
  op := op

/-- I-shift format with a 6-bit shift amount under the 6-bit field `f6` (R506). -/
def rawShift (f6 : BitVec 6) (f3 : BitVec 3) (rd rs1 : Reg) (shamt : BitVec 6) : Raw where
  f7 := f6 ++ shamt.extractLsb' 5 1
  rs2 := shamt.extractLsb' 0 5
  rs1 := rs1
  f3 := f3
  rd := rd
  op := 0b0010011#7

/-- Atomic format: funct5, aq, rl (45_a R700). -/
def rawAmo (f5 : BitVec 5) (f3 : BitVec 3) (aq rl : Bool) (rd rs1 rs2 : Reg) : Raw :=
  rawR 0b0101111#7 f3 (f5 ++ BitVec.ofBool aq ++ BitVec.ofBool rl) rd rs1 rs2

/-- The aq bit, bit 26. -/
def Raw.aq (r : Raw) : Bool := r.f7.getLsbD 1

/-- The rl bit, bit 25. -/
def Raw.rl (r : Raw) : Bool := r.f7.getLsbD 0

/-! ### Decoding, one function per major opcode (R510 to R513). A word no row matches is refused: it is illegal (R516). -/

/-- BRANCH: BEQ to BGEU (40_rv32i R578 to R584). -/
def decodeBranch (r : Raw) : Option Instr :=
  match r.f3 with
  | 0b000#3 => some (.beq r.rs1 r.rs2 r.immB)
  | 0b001#3 => some (.bne r.rs1 r.rs2 r.immB)
  | 0b100#3 => some (.blt r.rs1 r.rs2 r.immB)
  | 0b101#3 => some (.bge r.rs1 r.rs2 r.immB)
  | 0b110#3 => some (.bltu r.rs1 r.rs2 r.immB)
  | 0b111#3 => some (.bgeu r.rs1 r.rs2 r.immB)
  | _ => none

/-- LOAD (40_rv32i R591 to R595, 41_rv64i R631, R632). -/
def decodeLoad (r : Raw) : Option Instr :=
  match r.f3 with
  | 0b000#3 => some (.lb r.rd r.rs1 r.immI)
  | 0b001#3 => some (.lh r.rd r.rs1 r.immI)
  | 0b010#3 => some (.lw r.rd r.rs1 r.immI)
  | 0b100#3 => some (.lbu r.rd r.rs1 r.immI)
  | 0b101#3 => some (.lhu r.rd r.rs1 r.immI)
  | 0b011#3 => some (.ld r.rd r.rs1 r.immI)
  | 0b110#3 => some (.lwu r.rd r.rs1 r.immI)
  | _ => none

/-- STORE (40_rv32i R596 to R598, 41_rv64i R633). -/
def decodeStore (r : Raw) : Option Instr :=
  match r.f3 with
  | 0b000#3 => some (.sb r.rs1 r.rs2 r.immS)
  | 0b001#3 => some (.sh r.rs1 r.rs2 r.immS)
  | 0b010#3 => some (.sw r.rs1 r.rs2 r.immS)
  | 0b011#3 => some (.sd r.rs1 r.rs2 r.immS)
  | _ => none

/-- OP-IMM (40_rv32i R554 to R562), NOP's word apart (R575). The shift rows have a 6-bit shift amount (R506). -/
def decodeOpImm (r : Raw) : Option Instr :=
  match r.f3 with
  | 0b000#3 => if Instr.addiOk r.rd r.rs1 r.immI then some (.addi r.rd r.rs1 r.immI) else some .nop
  | 0b010#3 => some (.slti r.rd r.rs1 r.immI)
  | 0b011#3 => some (.sltiu r.rd r.rs1 r.immI)
  | 0b100#3 => some (.xori r.rd r.rs1 r.immI)
  | 0b110#3 => some (.ori r.rd r.rs1 r.immI)
  | 0b111#3 => some (.andi r.rd r.rs1 r.immI)
  | 0b001#3 => if r.f7.extractLsb' 1 6 = 0b000000#6 then some (.slli r.rd r.rs1 r.shamt) else none
  | 0b101#3 =>
    if r.f7.extractLsb' 1 6 = 0b000000#6 then some (.srli r.rd r.rs1 r.shamt)
    else if r.f7.extractLsb' 1 6 = 0b010000#6 then some (.srai r.rd r.rs1 r.shamt)
    else none
  | _ => none

/-- OP-IMM-32 (41_rv64i R622 to R625). -/
def decodeOpImm32 (r : Raw) : Option Instr :=
  match r.f3 with
  | 0b000#3 => some (.addiw r.rd r.rs1 r.immI)
  | 0b001#3 => if r.f7 = 0b0000000#7 then some (.slliw r.rd r.rs1 r.rs2) else none
  | 0b101#3 =>
    if r.f7 = 0b0000000#7 then some (.srliw r.rd r.rs1 r.rs2)
    else if r.f7 = 0b0100000#7 then some (.sraiw r.rd r.rs1 r.rs2)
    else none
  | _ => none

/-- ADD's word, or one of the four hints it holds (42_zifencei_hints R655). -/
def decodeAdd (r : Raw) : Option Instr :=
  if Instr.addOk r.rd r.rs1 r.rs2 then some (.add r.rd r.rs1 r.rs2)
  else match r.rs2 with
    | 2#5 => some .ntlP1
    | 3#5 => some .ntlPall
    | 4#5 => some .ntlS1
    | _ => some .ntlAll

/-- OP (40_rv32i R563 to R572, 44_m R682 to R692). -/
def decodeOp (r : Raw) : Option Instr :=
  match r.f7, r.f3 with
  | 0b0000000#7, 0b000#3 => decodeAdd r
  | 0b0100000#7, 0b000#3 => some (.sub r.rd r.rs1 r.rs2)
  | 0b0000000#7, 0b001#3 => some (.sll r.rd r.rs1 r.rs2)
  | 0b0000000#7, 0b010#3 => some (.slt r.rd r.rs1 r.rs2)
  | 0b0000000#7, 0b011#3 => some (.sltu r.rd r.rs1 r.rs2)
  | 0b0000000#7, 0b100#3 => some (.xor r.rd r.rs1 r.rs2)
  | 0b0000000#7, 0b101#3 => some (.srl r.rd r.rs1 r.rs2)
  | 0b0100000#7, 0b101#3 => some (.sra r.rd r.rs1 r.rs2)
  | 0b0000000#7, 0b110#3 => some (.or r.rd r.rs1 r.rs2)
  | 0b0000000#7, 0b111#3 => some (.and r.rd r.rs1 r.rs2)
  | 0b0000001#7, 0b000#3 => some (.mul r.rd r.rs1 r.rs2)
  | 0b0000001#7, 0b001#3 => some (.mulh r.rd r.rs1 r.rs2)
  | 0b0000001#7, 0b010#3 => some (.mulhsu r.rd r.rs1 r.rs2)
  | 0b0000001#7, 0b011#3 => some (.mulhu r.rd r.rs1 r.rs2)
  | 0b0000001#7, 0b100#3 => some (.div r.rd r.rs1 r.rs2)
  | 0b0000001#7, 0b101#3 => some (.divu r.rd r.rs1 r.rs2)
  | 0b0000001#7, 0b110#3 => some (.rem r.rd r.rs1 r.rs2)
  | 0b0000001#7, 0b111#3 => some (.remu r.rd r.rs1 r.rs2)
  | _, _ => none

/-- OP-32 (41_rv64i R626 to R630, 44_m R686, R693 to R696). -/
def decodeOp32 (r : Raw) : Option Instr :=
  match r.f7, r.f3 with
  | 0b0000000#7, 0b000#3 => some (.addw r.rd r.rs1 r.rs2)
  | 0b0100000#7, 0b000#3 => some (.subw r.rd r.rs1 r.rs2)
  | 0b0000000#7, 0b001#3 => some (.sllw r.rd r.rs1 r.rs2)
  | 0b0000000#7, 0b101#3 => some (.srlw r.rd r.rs1 r.rs2)
  | 0b0100000#7, 0b101#3 => some (.sraw r.rd r.rs1 r.rs2)
  | 0b0000001#7, 0b000#3 => some (.mulw r.rd r.rs1 r.rs2)
  | 0b0000001#7, 0b100#3 => some (.divw r.rd r.rs1 r.rs2)
  | 0b0000001#7, 0b101#3 => some (.divuw r.rd r.rs1 r.rs2)
  | 0b0000001#7, 0b110#3 => some (.remw r.rd r.rs1 r.rs2)
  | 0b0000001#7, 0b111#3 => some (.remuw r.rd r.rs1 r.rs2)
  | _, _ => none

/-- FENCE's word, or FENCE.TSO, or PAUSE (40_rv32i R606, R607, 42_zifencei_hints R653). -/
def decodeFence (r : Raw) : Option Instr :=
  let fm := r.immI.extractLsb' 8 4
  let pred := r.immI.extractLsb' 4 4
  let succ := r.immI.extractLsb' 0 4
  if Instr.fenceOk fm pred succ r.rs1 r.rd then some (.fence fm pred succ r.rs1 r.rd)
  else if fm = 8#4 then some .fenceTso
  else some .pause

/-- MISC-MEM (40_rv32i R606, 42_zifencei_hints R652): only funct3 selects. -/
def decodeMiscMem (r : Raw) : Option Instr :=
  match r.f3 with
  | 0b000#3 => decodeFence r
  | 0b001#3 => some (.fenceI r.immI r.rs1 r.rd)
  | _ => none

/-- AMO with word operands, by funct5 (45_a R700). LR has no rs2: a non-zero one is illegal (R701). -/
def decodeAmoW (r : Raw) : Option Instr :=
  match r.f7.extractLsb' 2 5 with
  | 0b00010#5 => if r.rs2 = 0#5 then some (.lrW r.aq r.rl r.rd r.rs1) else none
  | 0b00011#5 => some (.scW r.aq r.rl r.rd r.rs1 r.rs2)
  | 0b00001#5 => some (.amoswapW r.aq r.rl r.rd r.rs1 r.rs2)
  | 0b00000#5 => some (.amoaddW r.aq r.rl r.rd r.rs1 r.rs2)
  | 0b00100#5 => some (.amoxorW r.aq r.rl r.rd r.rs1 r.rs2)
  | 0b01100#5 => some (.amoandW r.aq r.rl r.rd r.rs1 r.rs2)
  | 0b01000#5 => some (.amoorW r.aq r.rl r.rd r.rs1 r.rs2)
  | 0b10000#5 => some (.amominW r.aq r.rl r.rd r.rs1 r.rs2)
  | 0b10100#5 => some (.amomaxW r.aq r.rl r.rd r.rs1 r.rs2)
  | 0b11000#5 => some (.amominuW r.aq r.rl r.rd r.rs1 r.rs2)
  | 0b11100#5 => some (.amomaxuW r.aq r.rl r.rd r.rs1 r.rs2)
  | _ => none

/-- AMO with doubleword operands, by funct5 (45_a R700). LR has no rs2: a non-zero one is illegal (R701). -/
def decodeAmoD (r : Raw) : Option Instr :=
  match r.f7.extractLsb' 2 5 with
  | 0b00010#5 => if r.rs2 = 0#5 then some (.lrD r.aq r.rl r.rd r.rs1) else none
  | 0b00011#5 => some (.scD r.aq r.rl r.rd r.rs1 r.rs2)
  | 0b00001#5 => some (.amoswapD r.aq r.rl r.rd r.rs1 r.rs2)
  | 0b00000#5 => some (.amoaddD r.aq r.rl r.rd r.rs1 r.rs2)
  | 0b00100#5 => some (.amoxorD r.aq r.rl r.rd r.rs1 r.rs2)
  | 0b01100#5 => some (.amoandD r.aq r.rl r.rd r.rs1 r.rs2)
  | 0b01000#5 => some (.amoorD r.aq r.rl r.rd r.rs1 r.rs2)
  | 0b10000#5 => some (.amominD r.aq r.rl r.rd r.rs1 r.rs2)
  | 0b10100#5 => some (.amomaxD r.aq r.rl r.rd r.rs1 r.rs2)
  | 0b11000#5 => some (.amominuD r.aq r.rl r.rd r.rs1 r.rs2)
  | 0b11100#5 => some (.amomaxuD r.aq r.rl r.rd r.rs1 r.rs2)
  | _ => none

/-- AMO, by width. -/
def decodeAmo (r : Raw) : Option Instr :=
  match r.f3 with
  | 0b010#3 => decodeAmoW r
  | 0b011#3 => decodeAmoD r
  | _ => none

/-- SYSTEM, funct3 000, the words without operands: rs1 and rd are 0 (46_privileged R743, 47_svinval R770). -/
def decodePrivPlain (r : Raw) : Option Instr :=
  match r.immI with
  | 0b000000000000#12 => some .ecall
  | 0b000000000001#12 => some .ebreak
  | 0b000100000010#12 => some .sret
  | 0b001100000010#12 => some .mret
  | 0b000100000101#12 => some .wfi
  | 0b000110000000#12 => some .sfenceWInval
  | 0b000110000001#12 => some .sfenceInvalIr
  | _ => none

/-- SYSTEM, funct3 000: rd is 0 in every row (46_privileged R743, 47_svinval R770, 48_hypervisor R780). -/
def decodePriv (r : Raw) : Option Instr :=
  if r.rd = 0#5 then
    match r.f7 with
    | 0b0001001#7 => some (.sfenceVma r.rs1 r.rs2)
    | 0b0001011#7 => some (.sinvalVma r.rs1 r.rs2)
    | 0b0010011#7 => some (.hinvalVvma r.rs1 r.rs2)
    | 0b0110011#7 => some (.hinvalGvma r.rs1 r.rs2)
    | 0b0010001#7 => some (.hfenceVvma r.rs1 r.rs2)
    | 0b0110001#7 => some (.hfenceGvma r.rs1 r.rs2)
    | _ => if r.rs1 = 0#5 then decodePrivPlain r else none
  else none

/-- SYSTEM, funct3 100: virtual-machine loads by funct7 and rs2, stores by funct7 with rd 0 (48_hypervisor R780). -/
def decodeHyp (r : Raw) : Option Instr :=
  match r.f7, r.rs2 with
  | 0b0110000#7, 0b00000#5 => some (.hlvB r.rd r.rs1)
  | 0b0110000#7, 0b00001#5 => some (.hlvBu r.rd r.rs1)
  | 0b0110010#7, 0b00000#5 => some (.hlvH r.rd r.rs1)
  | 0b0110010#7, 0b00001#5 => some (.hlvHu r.rd r.rs1)
  | 0b0110010#7, 0b00011#5 => some (.hlvxHu r.rd r.rs1)
  | 0b0110100#7, 0b00000#5 => some (.hlvW r.rd r.rs1)
  | 0b0110100#7, 0b00001#5 => some (.hlvWu r.rd r.rs1)
  | 0b0110100#7, 0b00011#5 => some (.hlvxWu r.rd r.rs1)
  | 0b0110110#7, 0b00000#5 => some (.hlvD r.rd r.rs1)
  | 0b0110001#7, _ => if r.rd = 0#5 then some (.hsvB r.rs1 r.rs2) else none
  | 0b0110011#7, _ => if r.rd = 0#5 then some (.hsvH r.rs1 r.rs2) else none
  | 0b0110101#7, _ => if r.rd = 0#5 then some (.hsvW r.rs1 r.rs2) else none
  | 0b0110111#7, _ => if r.rd = 0#5 then some (.hsvD r.rs1 r.rs2) else none
  | _, _ => none

/-- SYSTEM (30_encoding R511). -/
def decodeSystem (r : Raw) : Option Instr :=
  match r.f3 with
  | 0b000#3 => decodePriv r
  | 0b100#3 => decodeHyp r
  | 0b001#3 => some (.csrrw r.rd r.rs1 r.immI)
  | 0b010#3 => some (.csrrs r.rd r.rs1 r.immI)
  | 0b011#3 => some (.csrrc r.rd r.rs1 r.immI)
  | 0b101#3 => some (.csrrwi r.rd r.rs1 r.immI)
  | 0b110#3 => some (.csrrsi r.rd r.rs1 r.immI)
  | 0b111#3 => some (.csrrci r.rd r.rs1 r.immI)
  | _ => none

/-- The instruction whose fields these are, by major opcode (R510, R513, R515). -/
def decodeRaw (r : Raw) : Option Instr :=
  match r.op with
  | 0b0110111#7 => some (.lui r.rd r.immU)
  | 0b0010111#7 => some (.auipc r.rd r.immU)
  | 0b1101111#7 => some (.jal r.rd r.immJ)
  | 0b1100111#7 => if r.f3 = 0b000#3 then some (.jalr r.rd r.rs1 r.immI) else none
  | 0b1100011#7 => decodeBranch r
  | 0b0000011#7 => decodeLoad r
  | 0b0100011#7 => decodeStore r
  | 0b0010011#7 => decodeOpImm r
  | 0b0110011#7 => decodeOp r
  | 0b0001111#7 => decodeMiscMem r
  | 0b0011011#7 => decodeOpImm32 r
  | 0b0111011#7 => decodeOp32 r
  | 0b0101111#7 => decodeAmo r
  | 0b1110011#7 => decodeSystem r
  | _ => none

/-- Decode a word (R515). The words R502 and R503 name (all zeros, all ones, a length code that is not 32-bit) match no
opcode. Whether the hart implements the instruction is `Instr.available`. -/
def decode (w : Inst) : Option Instr := decodeRaw (unpack w)

/-! ### Encoding, from the same rows -/

/-- The fields of an instruction's word (R545). -/
def encodeRaw : Instr → Raw
  | .lui rd imm => rawU 0b0110111#7 rd imm
  | .auipc rd imm => rawU 0b0010111#7 rd imm
  | .jal rd imm => rawJ 0b1101111#7 rd imm
  | .jalr rd rs1 imm => rawI 0b1100111#7 0b000#3 rd rs1 imm
  | .beq rs1 rs2 imm => rawB 0b1100011#7 0b000#3 rs1 rs2 imm
  | .bne rs1 rs2 imm => rawB 0b1100011#7 0b001#3 rs1 rs2 imm
  | .blt rs1 rs2 imm => rawB 0b1100011#7 0b100#3 rs1 rs2 imm
  | .bge rs1 rs2 imm => rawB 0b1100011#7 0b101#3 rs1 rs2 imm
  | .bltu rs1 rs2 imm => rawB 0b1100011#7 0b110#3 rs1 rs2 imm
  | .bgeu rs1 rs2 imm => rawB 0b1100011#7 0b111#3 rs1 rs2 imm
  | .lb rd rs1 imm => rawI 0b0000011#7 0b000#3 rd rs1 imm
  | .lh rd rs1 imm => rawI 0b0000011#7 0b001#3 rd rs1 imm
  | .lw rd rs1 imm => rawI 0b0000011#7 0b010#3 rd rs1 imm
  | .lbu rd rs1 imm => rawI 0b0000011#7 0b100#3 rd rs1 imm
  | .lhu rd rs1 imm => rawI 0b0000011#7 0b101#3 rd rs1 imm
  | .ld rd rs1 imm => rawI 0b0000011#7 0b011#3 rd rs1 imm
  | .lwu rd rs1 imm => rawI 0b0000011#7 0b110#3 rd rs1 imm
  | .sb rs1 rs2 imm => rawS 0b0100011#7 0b000#3 rs1 rs2 imm
  | .sh rs1 rs2 imm => rawS 0b0100011#7 0b001#3 rs1 rs2 imm
  | .sw rs1 rs2 imm => rawS 0b0100011#7 0b010#3 rs1 rs2 imm
  | .sd rs1 rs2 imm => rawS 0b0100011#7 0b011#3 rs1 rs2 imm
  | .addi rd rs1 imm => rawI 0b0010011#7 0b000#3 rd rs1 imm
  | .slti rd rs1 imm => rawI 0b0010011#7 0b010#3 rd rs1 imm
  | .sltiu rd rs1 imm => rawI 0b0010011#7 0b011#3 rd rs1 imm
  | .xori rd rs1 imm => rawI 0b0010011#7 0b100#3 rd rs1 imm
  | .ori rd rs1 imm => rawI 0b0010011#7 0b110#3 rd rs1 imm
  | .andi rd rs1 imm => rawI 0b0010011#7 0b111#3 rd rs1 imm
  | .slli rd rs1 shamt => rawShift 0b000000#6 0b001#3 rd rs1 shamt
  | .srli rd rs1 shamt => rawShift 0b000000#6 0b101#3 rd rs1 shamt
  | .srai rd rs1 shamt => rawShift 0b010000#6 0b101#3 rd rs1 shamt
  | .add rd rs1 rs2 => rawR 0b0110011#7 0b000#3 0b0000000#7 rd rs1 rs2
  | .sub rd rs1 rs2 => rawR 0b0110011#7 0b000#3 0b0100000#7 rd rs1 rs2
  | .sll rd rs1 rs2 => rawR 0b0110011#7 0b001#3 0b0000000#7 rd rs1 rs2
  | .slt rd rs1 rs2 => rawR 0b0110011#7 0b010#3 0b0000000#7 rd rs1 rs2
  | .sltu rd rs1 rs2 => rawR 0b0110011#7 0b011#3 0b0000000#7 rd rs1 rs2
  | .xor rd rs1 rs2 => rawR 0b0110011#7 0b100#3 0b0000000#7 rd rs1 rs2
  | .srl rd rs1 rs2 => rawR 0b0110011#7 0b101#3 0b0000000#7 rd rs1 rs2
  | .sra rd rs1 rs2 => rawR 0b0110011#7 0b101#3 0b0100000#7 rd rs1 rs2
  | .or rd rs1 rs2 => rawR 0b0110011#7 0b110#3 0b0000000#7 rd rs1 rs2
  | .and rd rs1 rs2 => rawR 0b0110011#7 0b111#3 0b0000000#7 rd rs1 rs2
  | .nop => rawI 0b0010011#7 0b000#3 0b00000#5 0b00000#5 0b000000000000#12
  | .fence fm pred succ rs1 rd => rawI 0b0001111#7 0b000#3 rd rs1 (fm ++ pred ++ succ)
  | .fenceTso => rawI 0b0001111#7 0b000#3 0b00000#5 0b00000#5 0b100000110011#12
  | .pause => rawI 0b0001111#7 0b000#3 0b00000#5 0b00000#5 0b000000010000#12
  | .fenceI imm rs1 rd => rawI 0b0001111#7 0b001#3 rd rs1 imm
  | .ecall => rawI 0b1110011#7 0b000#3 0b00000#5 0b00000#5 0b000000000000#12
  | .ebreak => rawI 0b1110011#7 0b000#3 0b00000#5 0b00000#5 0b000000000001#12
  | .addiw rd rs1 imm => rawI 0b0011011#7 0b000#3 rd rs1 imm
  | .slliw rd rs1 shamt => rawR 0b0011011#7 0b001#3 0b0000000#7 rd rs1 shamt
  | .srliw rd rs1 shamt => rawR 0b0011011#7 0b101#3 0b0000000#7 rd rs1 shamt
  | .sraiw rd rs1 shamt => rawR 0b0011011#7 0b101#3 0b0100000#7 rd rs1 shamt
  | .addw rd rs1 rs2 => rawR 0b0111011#7 0b000#3 0b0000000#7 rd rs1 rs2
  | .subw rd rs1 rs2 => rawR 0b0111011#7 0b000#3 0b0100000#7 rd rs1 rs2
  | .sllw rd rs1 rs2 => rawR 0b0111011#7 0b001#3 0b0000000#7 rd rs1 rs2
  | .srlw rd rs1 rs2 => rawR 0b0111011#7 0b101#3 0b0000000#7 rd rs1 rs2
  | .sraw rd rs1 rs2 => rawR 0b0111011#7 0b101#3 0b0100000#7 rd rs1 rs2
  | .ntlP1 => rawI 0b0110011#7 0b000#3 0b00000#5 0b00000#5 0b000000000010#12
  | .ntlPall => rawI 0b0110011#7 0b000#3 0b00000#5 0b00000#5 0b000000000011#12
  | .ntlS1 => rawI 0b0110011#7 0b000#3 0b00000#5 0b00000#5 0b000000000100#12
  | .ntlAll => rawI 0b0110011#7 0b000#3 0b00000#5 0b00000#5 0b000000000101#12
  | .csrrw rd rs1 csr => rawI 0b1110011#7 0b001#3 rd rs1 csr
  | .csrrs rd rs1 csr => rawI 0b1110011#7 0b010#3 rd rs1 csr
  | .csrrc rd rs1 csr => rawI 0b1110011#7 0b011#3 rd rs1 csr
  | .csrrwi rd uimm csr => rawI 0b1110011#7 0b101#3 rd uimm csr
  | .csrrsi rd uimm csr => rawI 0b1110011#7 0b110#3 rd uimm csr
  | .csrrci rd uimm csr => rawI 0b1110011#7 0b111#3 rd uimm csr
  | .mul rd rs1 rs2 => rawR 0b0110011#7 0b000#3 0b0000001#7 rd rs1 rs2
  | .mulh rd rs1 rs2 => rawR 0b0110011#7 0b001#3 0b0000001#7 rd rs1 rs2
  | .mulhsu rd rs1 rs2 => rawR 0b0110011#7 0b010#3 0b0000001#7 rd rs1 rs2
  | .mulhu rd rs1 rs2 => rawR 0b0110011#7 0b011#3 0b0000001#7 rd rs1 rs2
  | .div rd rs1 rs2 => rawR 0b0110011#7 0b100#3 0b0000001#7 rd rs1 rs2
  | .divu rd rs1 rs2 => rawR 0b0110011#7 0b101#3 0b0000001#7 rd rs1 rs2
  | .rem rd rs1 rs2 => rawR 0b0110011#7 0b110#3 0b0000001#7 rd rs1 rs2
  | .remu rd rs1 rs2 => rawR 0b0110011#7 0b111#3 0b0000001#7 rd rs1 rs2
  | .mulw rd rs1 rs2 => rawR 0b0111011#7 0b000#3 0b0000001#7 rd rs1 rs2
  | .divw rd rs1 rs2 => rawR 0b0111011#7 0b100#3 0b0000001#7 rd rs1 rs2
  | .divuw rd rs1 rs2 => rawR 0b0111011#7 0b101#3 0b0000001#7 rd rs1 rs2
  | .remw rd rs1 rs2 => rawR 0b0111011#7 0b110#3 0b0000001#7 rd rs1 rs2
  | .remuw rd rs1 rs2 => rawR 0b0111011#7 0b111#3 0b0000001#7 rd rs1 rs2
  | .lrW aq rl rd rs1 => rawAmo 0b00010#5 0b010#3 aq rl rd rs1 0#5
  | .scW aq rl rd rs1 rs2 => rawAmo 0b00011#5 0b010#3 aq rl rd rs1 rs2
  | .amoswapW aq rl rd rs1 rs2 => rawAmo 0b00001#5 0b010#3 aq rl rd rs1 rs2
  | .amoaddW aq rl rd rs1 rs2 => rawAmo 0b00000#5 0b010#3 aq rl rd rs1 rs2
  | .amoxorW aq rl rd rs1 rs2 => rawAmo 0b00100#5 0b010#3 aq rl rd rs1 rs2
  | .amoandW aq rl rd rs1 rs2 => rawAmo 0b01100#5 0b010#3 aq rl rd rs1 rs2
  | .amoorW aq rl rd rs1 rs2 => rawAmo 0b01000#5 0b010#3 aq rl rd rs1 rs2
  | .amominW aq rl rd rs1 rs2 => rawAmo 0b10000#5 0b010#3 aq rl rd rs1 rs2
  | .amomaxW aq rl rd rs1 rs2 => rawAmo 0b10100#5 0b010#3 aq rl rd rs1 rs2
  | .amominuW aq rl rd rs1 rs2 => rawAmo 0b11000#5 0b010#3 aq rl rd rs1 rs2
  | .amomaxuW aq rl rd rs1 rs2 => rawAmo 0b11100#5 0b010#3 aq rl rd rs1 rs2
  | .lrD aq rl rd rs1 => rawAmo 0b00010#5 0b011#3 aq rl rd rs1 0#5
  | .scD aq rl rd rs1 rs2 => rawAmo 0b00011#5 0b011#3 aq rl rd rs1 rs2
  | .amoswapD aq rl rd rs1 rs2 => rawAmo 0b00001#5 0b011#3 aq rl rd rs1 rs2
  | .amoaddD aq rl rd rs1 rs2 => rawAmo 0b00000#5 0b011#3 aq rl rd rs1 rs2
  | .amoxorD aq rl rd rs1 rs2 => rawAmo 0b00100#5 0b011#3 aq rl rd rs1 rs2
  | .amoandD aq rl rd rs1 rs2 => rawAmo 0b01100#5 0b011#3 aq rl rd rs1 rs2
  | .amoorD aq rl rd rs1 rs2 => rawAmo 0b01000#5 0b011#3 aq rl rd rs1 rs2
  | .amominD aq rl rd rs1 rs2 => rawAmo 0b10000#5 0b011#3 aq rl rd rs1 rs2
  | .amomaxD aq rl rd rs1 rs2 => rawAmo 0b10100#5 0b011#3 aq rl rd rs1 rs2
  | .amominuD aq rl rd rs1 rs2 => rawAmo 0b11000#5 0b011#3 aq rl rd rs1 rs2
  | .amomaxuD aq rl rd rs1 rs2 => rawAmo 0b11100#5 0b011#3 aq rl rd rs1 rs2
  | .sret => rawI 0b1110011#7 0b000#3 0b00000#5 0b00000#5 0b000100000010#12
  | .mret => rawI 0b1110011#7 0b000#3 0b00000#5 0b00000#5 0b001100000010#12
  | .wfi => rawI 0b1110011#7 0b000#3 0b00000#5 0b00000#5 0b000100000101#12
  | .sfenceVma rs1 rs2 => rawR 0b1110011#7 0b000#3 0b0001001#7 0#5 rs1 rs2
  | .sinvalVma rs1 rs2 => rawR 0b1110011#7 0b000#3 0b0001011#7 0#5 rs1 rs2
  | .sfenceWInval => rawI 0b1110011#7 0b000#3 0b00000#5 0b00000#5 0b000110000000#12
  | .sfenceInvalIr => rawI 0b1110011#7 0b000#3 0b00000#5 0b00000#5 0b000110000001#12
  | .hinvalVvma rs1 rs2 => rawR 0b1110011#7 0b000#3 0b0010011#7 0#5 rs1 rs2
  | .hinvalGvma rs1 rs2 => rawR 0b1110011#7 0b000#3 0b0110011#7 0#5 rs1 rs2
  | .hfenceVvma rs1 rs2 => rawR 0b1110011#7 0b000#3 0b0010001#7 0#5 rs1 rs2
  | .hfenceGvma rs1 rs2 => rawR 0b1110011#7 0b000#3 0b0110001#7 0#5 rs1 rs2
  | .hlvB rd rs1 => rawR 0b1110011#7 0b100#3 0b0110000#7 rd rs1 0b00000#5
  | .hlvBu rd rs1 => rawR 0b1110011#7 0b100#3 0b0110000#7 rd rs1 0b00001#5
  | .hlvH rd rs1 => rawR 0b1110011#7 0b100#3 0b0110010#7 rd rs1 0b00000#5
  | .hlvHu rd rs1 => rawR 0b1110011#7 0b100#3 0b0110010#7 rd rs1 0b00001#5
  | .hlvxHu rd rs1 => rawR 0b1110011#7 0b100#3 0b0110010#7 rd rs1 0b00011#5
  | .hlvW rd rs1 => rawR 0b1110011#7 0b100#3 0b0110100#7 rd rs1 0b00000#5
  | .hlvWu rd rs1 => rawR 0b1110011#7 0b100#3 0b0110100#7 rd rs1 0b00001#5
  | .hlvxWu rd rs1 => rawR 0b1110011#7 0b100#3 0b0110100#7 rd rs1 0b00011#5
  | .hlvD rd rs1 => rawR 0b1110011#7 0b100#3 0b0110110#7 rd rs1 0b00000#5
  | .hsvB rs1 rs2 => rawR 0b1110011#7 0b100#3 0b0110001#7 0#5 rs1 rs2
  | .hsvH rs1 rs2 => rawR 0b1110011#7 0b100#3 0b0110011#7 0#5 rs1 rs2
  | .hsvW rs1 rs2 => rawR 0b1110011#7 0b100#3 0b0110101#7 0#5 rs1 rs2
  | .hsvD rs1 rs2 => rawR 0b1110011#7 0b100#3 0b0110111#7 0#5 rs1 rs2

/-- The word of an instruction. -/
def encode (i : Instr) : Inst := pack (encodeRaw i)

/-! ### Availability: the extension and XLEN columns of the opcode table (R513, R515, R518) and the registers of RVE -/

/-- The register exists: under RVE only x0 to x15 do (10_state R53). -/
def Reg.exists (c : Config) (r : Reg) : Bool := !c.rve || !r.getLsbD 4

/-- The extension and XLEN of the instruction's row. PAUSE and NTL run on every implementation (R653, R655). -/
def Instr.implemented (c : Config) : Instr → Bool
  | .lui _ _ => true
  | .auipc _ _ => true
  | .jal _ _ => true
  | .jalr _ _ _ => true
  | .beq _ _ _ => true
  | .bne _ _ _ => true
  | .blt _ _ _ => true
  | .bge _ _ _ => true
  | .bltu _ _ _ => true
  | .bgeu _ _ _ => true
  | .lb _ _ _ => true
  | .lh _ _ _ => true
  | .lw _ _ _ => true
  | .lbu _ _ _ => true
  | .lhu _ _ _ => true
  | .ld _ _ _ => c.rv64
  | .lwu _ _ _ => c.rv64
  | .sb _ _ _ => true
  | .sh _ _ _ => true
  | .sw _ _ _ => true
  | .sd _ _ _ => c.rv64
  | .addi _ _ _ => true
  | .slti _ _ _ => true
  | .sltiu _ _ _ => true
  | .xori _ _ _ => true
  | .ori _ _ _ => true
  | .andi _ _ _ => true
  | .slli _ _ shamt => c.rv64 || !shamt.getLsbD 5
  | .srli _ _ shamt => c.rv64 || !shamt.getLsbD 5
  | .srai _ _ shamt => c.rv64 || !shamt.getLsbD 5
  | .add _ _ _ => true
  | .sub _ _ _ => true
  | .sll _ _ _ => true
  | .slt _ _ _ => true
  | .sltu _ _ _ => true
  | .xor _ _ _ => true
  | .srl _ _ _ => true
  | .sra _ _ _ => true
  | .or _ _ _ => true
  | .and _ _ _ => true
  | .nop => true
  | .fence _ _ _ _ _ => true
  | .fenceTso => true
  | .pause => true
  | .fenceI _ _ _ => c.extZifencei
  | .ecall => true
  | .ebreak => true
  | .addiw _ _ _ => c.rv64
  | .slliw _ _ _ => c.rv64
  | .srliw _ _ _ => c.rv64
  | .sraiw _ _ _ => c.rv64
  | .addw _ _ _ => c.rv64
  | .subw _ _ _ => c.rv64
  | .sllw _ _ _ => c.rv64
  | .srlw _ _ _ => c.rv64
  | .sraw _ _ _ => c.rv64
  | .ntlP1 => true
  | .ntlPall => true
  | .ntlS1 => true
  | .ntlAll => true
  | .csrrw _ _ _ => true
  | .csrrs _ _ _ => true
  | .csrrc _ _ _ => true
  | .csrrwi _ _ _ => true
  | .csrrsi _ _ _ => true
  | .csrrci _ _ _ => true
  | .mul _ _ _ => c.extZmmul
  | .mulh _ _ _ => c.extZmmul
  | .mulhsu _ _ _ => c.extZmmul
  | .mulhu _ _ _ => c.extZmmul
  | .div _ _ _ => c.extM
  | .divu _ _ _ => c.extM
  | .rem _ _ _ => c.extM
  | .remu _ _ _ => c.extM
  | .mulw _ _ _ => c.rv64 && c.extZmmul
  | .divw _ _ _ => c.rv64 && c.extM
  | .divuw _ _ _ => c.rv64 && c.extM
  | .remw _ _ _ => c.rv64 && c.extM
  | .remuw _ _ _ => c.rv64 && c.extM
  | .lrW _ _ _ _ => c.extA
  | .scW _ _ _ _ _ => c.extA
  | .amoswapW _ _ _ _ _ => c.extA
  | .amoaddW _ _ _ _ _ => c.extA
  | .amoxorW _ _ _ _ _ => c.extA
  | .amoandW _ _ _ _ _ => c.extA
  | .amoorW _ _ _ _ _ => c.extA
  | .amominW _ _ _ _ _ => c.extA
  | .amomaxW _ _ _ _ _ => c.extA
  | .amominuW _ _ _ _ _ => c.extA
  | .amomaxuW _ _ _ _ _ => c.extA
  | .lrD _ _ _ _ => c.rv64 && c.extA
  | .scD _ _ _ _ _ => c.rv64 && c.extA
  | .amoswapD _ _ _ _ _ => c.rv64 && c.extA
  | .amoaddD _ _ _ _ _ => c.rv64 && c.extA
  | .amoxorD _ _ _ _ _ => c.rv64 && c.extA
  | .amoandD _ _ _ _ _ => c.rv64 && c.extA
  | .amoorD _ _ _ _ _ => c.rv64 && c.extA
  | .amominD _ _ _ _ _ => c.rv64 && c.extA
  | .amomaxD _ _ _ _ _ => c.rv64 && c.extA
  | .amominuD _ _ _ _ _ => c.rv64 && c.extA
  | .amomaxuD _ _ _ _ _ => c.rv64 && c.extA
  | .sret => c.hasS
  | .mret => true
  | .wfi => true
  | .sfenceVma _ _ => c.hasS
  | .sinvalVma _ _ => c.extSvinval && c.hasS
  | .sfenceWInval => c.extSvinval && c.hasS
  | .sfenceInvalIr => c.extSvinval && c.hasS
  | .hinvalVvma _ _ => c.extSvinval && c.hasH
  | .hinvalGvma _ _ => c.extSvinval && c.hasH
  | .hfenceVvma _ _ => c.hasH
  | .hfenceGvma _ _ => c.hasH
  | .hlvB _ _ => c.hasH
  | .hlvBu _ _ => c.hasH
  | .hlvH _ _ => c.hasH
  | .hlvHu _ _ => c.hasH
  | .hlvxHu _ _ => c.hasH
  | .hlvW _ _ => c.hasH
  | .hlvWu _ _ => c.rv64 && c.hasH
  | .hlvxWu _ _ => c.hasH
  | .hlvD _ _ => c.rv64 && c.hasH
  | .hsvB _ _ => c.hasH
  | .hsvH _ _ => c.hasH
  | .hsvW _ _ => c.hasH
  | .hsvD _ _ => c.rv64 && c.hasH

/-- The register numbers the instruction names. FENCE and FENCE.I ignore theirs (R517). -/
def Instr.regs : Instr → List Reg
  | .lui rd _ => [rd]
  | .auipc rd _ => [rd]
  | .jal rd _ => [rd]
  | .jalr rd rs1 _ => [rd, rs1]
  | .beq rs1 rs2 _ => [rs1, rs2]
  | .bne rs1 rs2 _ => [rs1, rs2]
  | .blt rs1 rs2 _ => [rs1, rs2]
  | .bge rs1 rs2 _ => [rs1, rs2]
  | .bltu rs1 rs2 _ => [rs1, rs2]
  | .bgeu rs1 rs2 _ => [rs1, rs2]
  | .lb rd rs1 _ => [rd, rs1]
  | .lh rd rs1 _ => [rd, rs1]
  | .lw rd rs1 _ => [rd, rs1]
  | .lbu rd rs1 _ => [rd, rs1]
  | .lhu rd rs1 _ => [rd, rs1]
  | .ld rd rs1 _ => [rd, rs1]
  | .lwu rd rs1 _ => [rd, rs1]
  | .sb rs1 rs2 _ => [rs1, rs2]
  | .sh rs1 rs2 _ => [rs1, rs2]
  | .sw rs1 rs2 _ => [rs1, rs2]
  | .sd rs1 rs2 _ => [rs1, rs2]
  | .addi rd rs1 _ => [rd, rs1]
  | .slti rd rs1 _ => [rd, rs1]
  | .sltiu rd rs1 _ => [rd, rs1]
  | .xori rd rs1 _ => [rd, rs1]
  | .ori rd rs1 _ => [rd, rs1]
  | .andi rd rs1 _ => [rd, rs1]
  | .slli rd rs1 _ => [rd, rs1]
  | .srli rd rs1 _ => [rd, rs1]
  | .srai rd rs1 _ => [rd, rs1]
  | .add rd rs1 rs2 => [rd, rs1, rs2]
  | .sub rd rs1 rs2 => [rd, rs1, rs2]
  | .sll rd rs1 rs2 => [rd, rs1, rs2]
  | .slt rd rs1 rs2 => [rd, rs1, rs2]
  | .sltu rd rs1 rs2 => [rd, rs1, rs2]
  | .xor rd rs1 rs2 => [rd, rs1, rs2]
  | .srl rd rs1 rs2 => [rd, rs1, rs2]
  | .sra rd rs1 rs2 => [rd, rs1, rs2]
  | .or rd rs1 rs2 => [rd, rs1, rs2]
  | .and rd rs1 rs2 => [rd, rs1, rs2]
  | .nop => []
  | .fence _ _ _ _ _ => []
  | .fenceTso => []
  | .pause => []
  | .fenceI _ _ _ => []
  | .ecall => []
  | .ebreak => []
  | .addiw rd rs1 _ => [rd, rs1]
  | .slliw rd rs1 _ => [rd, rs1]
  | .srliw rd rs1 _ => [rd, rs1]
  | .sraiw rd rs1 _ => [rd, rs1]
  | .addw rd rs1 rs2 => [rd, rs1, rs2]
  | .subw rd rs1 rs2 => [rd, rs1, rs2]
  | .sllw rd rs1 rs2 => [rd, rs1, rs2]
  | .srlw rd rs1 rs2 => [rd, rs1, rs2]
  | .sraw rd rs1 rs2 => [rd, rs1, rs2]
  | .ntlP1 => []
  | .ntlPall => []
  | .ntlS1 => []
  | .ntlAll => []
  | .csrrw rd rs1 _ => [rd, rs1]
  | .csrrs rd rs1 _ => [rd, rs1]
  | .csrrc rd rs1 _ => [rd, rs1]
  | .csrrwi rd _ _ => [rd]
  | .csrrsi rd _ _ => [rd]
  | .csrrci rd _ _ => [rd]
  | .mul rd rs1 rs2 => [rd, rs1, rs2]
  | .mulh rd rs1 rs2 => [rd, rs1, rs2]
  | .mulhsu rd rs1 rs2 => [rd, rs1, rs2]
  | .mulhu rd rs1 rs2 => [rd, rs1, rs2]
  | .div rd rs1 rs2 => [rd, rs1, rs2]
  | .divu rd rs1 rs2 => [rd, rs1, rs2]
  | .rem rd rs1 rs2 => [rd, rs1, rs2]
  | .remu rd rs1 rs2 => [rd, rs1, rs2]
  | .mulw rd rs1 rs2 => [rd, rs1, rs2]
  | .divw rd rs1 rs2 => [rd, rs1, rs2]
  | .divuw rd rs1 rs2 => [rd, rs1, rs2]
  | .remw rd rs1 rs2 => [rd, rs1, rs2]
  | .remuw rd rs1 rs2 => [rd, rs1, rs2]
  | .lrW _ _ rd rs1 => [rd, rs1]
  | .scW _ _ rd rs1 rs2 => [rd, rs1, rs2]
  | .amoswapW _ _ rd rs1 rs2 => [rd, rs1, rs2]
  | .amoaddW _ _ rd rs1 rs2 => [rd, rs1, rs2]
  | .amoxorW _ _ rd rs1 rs2 => [rd, rs1, rs2]
  | .amoandW _ _ rd rs1 rs2 => [rd, rs1, rs2]
  | .amoorW _ _ rd rs1 rs2 => [rd, rs1, rs2]
  | .amominW _ _ rd rs1 rs2 => [rd, rs1, rs2]
  | .amomaxW _ _ rd rs1 rs2 => [rd, rs1, rs2]
  | .amominuW _ _ rd rs1 rs2 => [rd, rs1, rs2]
  | .amomaxuW _ _ rd rs1 rs2 => [rd, rs1, rs2]
  | .lrD _ _ rd rs1 => [rd, rs1]
  | .scD _ _ rd rs1 rs2 => [rd, rs1, rs2]
  | .amoswapD _ _ rd rs1 rs2 => [rd, rs1, rs2]
  | .amoaddD _ _ rd rs1 rs2 => [rd, rs1, rs2]
  | .amoxorD _ _ rd rs1 rs2 => [rd, rs1, rs2]
  | .amoandD _ _ rd rs1 rs2 => [rd, rs1, rs2]
  | .amoorD _ _ rd rs1 rs2 => [rd, rs1, rs2]
  | .amominD _ _ rd rs1 rs2 => [rd, rs1, rs2]
  | .amomaxD _ _ rd rs1 rs2 => [rd, rs1, rs2]
  | .amominuD _ _ rd rs1 rs2 => [rd, rs1, rs2]
  | .amomaxuD _ _ rd rs1 rs2 => [rd, rs1, rs2]
  | .sret => []
  | .mret => []
  | .wfi => []
  | .sfenceVma rs1 rs2 => [rs1, rs2]
  | .sinvalVma rs1 rs2 => [rs1, rs2]
  | .sfenceWInval => []
  | .sfenceInvalIr => []
  | .hinvalVvma rs1 rs2 => [rs1, rs2]
  | .hinvalGvma rs1 rs2 => [rs1, rs2]
  | .hfenceVvma rs1 rs2 => [rs1, rs2]
  | .hfenceGvma rs1 rs2 => [rs1, rs2]
  | .hlvB rd rs1 => [rd, rs1]
  | .hlvBu rd rs1 => [rd, rs1]
  | .hlvH rd rs1 => [rd, rs1]
  | .hlvHu rd rs1 => [rd, rs1]
  | .hlvxHu rd rs1 => [rd, rs1]
  | .hlvW rd rs1 => [rd, rs1]
  | .hlvWu rd rs1 => [rd, rs1]
  | .hlvxWu rd rs1 => [rd, rs1]
  | .hlvD rd rs1 => [rd, rs1]
  | .hsvB rs1 rs2 => [rs1, rs2]
  | .hsvH rs1 rs2 => [rs1, rs2]
  | .hsvW rs1 rs2 => [rs1, rs2]
  | .hsvD rs1 rs2 => [rs1, rs2]

/-- The hart implements the instruction; otherwise its word is illegal (R515, R516). -/
def Instr.available (c : Config) (i : Instr) : Bool := i.implemented c && i.regs.all (Reg.exists c)

/-! ### The host's view of the decoder -/

/-- The bits `w` of an instruction of `nbits` bits, bits above `nbits` being 0, as the four bytes memory stores for it,
lowest address first (30_encoding R501). -/
def tableBytes (nbits w : Nat) : List Byte :=
  let v := BitVec.ofNat 32 (w % 2 ^ nbits)
  [v.extractLsb' 0 8, v.extractLsb' 8 8, v.extractLsb' 16 8, v.extractLsb' 24 8]

/-- The word in four bytes, little-endian whatever the data byte order is (20_memory R338). -/
def instOfBytes : List Byte → Option Inst
  | [b0, b1, b2, b3] => some (b3 ++ b2 ++ b1 ++ b0)
  | _ => none

def decodeTableWord (nbits w : Nat) : Option Instr := (instOfBytes (tableBytes nbits w)).bind decode

end Sys2Proof
end

