-- ==== Sys2Proof/Machine/State.lean ====
section
/-! DEFINITION. The state of the hart and its platform as plain data (spec 10_state), the reasons a step can stop, and
the state after reset (70_reset_and_hazards R930, R931). -/

namespace Sys2Proof.Machine

/-- Why the machine stops: it never does. Every error of a run is an exception the spec describes, and what the spec leaves
open is a free value. -/
inductive Fault where
  deriving DecidableEq, Repr

/-- Why an instruction has no meaning. -/
inductive Refusal where
  /-- Raised by an arm of `exec` whose instruction has no meaning yet. Safe: nothing is claimed of it. -/
  | notModelled (mnemonic : String)
  deriving DecidableEq, Repr

/-- A privilege mode; level 2 is reserved (10_state R63). -/
inductive Priv where
  | U
  | S
  | M
  deriving DecidableEq, Repr

/-- The machine-level CSRs that are stored (11_csr_machine, 13_csr_hypervisor section 11). -/
structure MCsrs where
  /-- mstatus, and mstatush as bits 63:32: the writable fields in the 64-bit layout of R112. -/
  mstatus : Word
  mtvec : Word
  medeleg : Word
  /-- The writable bits; the read-only ones are composed on a read (R301). -/
  mideleg : Word
  mie : Word
  /-- SSIP, STIP and the software bit B of SEIP (R137, R141); the other bits follow the inputs (60_exceptions R851). -/
  mip : Word
  mscratch : Word
  mepc : Word
  mcause : Word
  mtval : Word
  mtval2 : Word
  mtinst : Word
  mcounteren : BitVec 32
  mcountinhibit : BitVec 32
  mcycle : BitVec 64
  minstret : BitVec 64
  /-- mhpmcounter n at index n; indices 0 to 2 are unused (R143). -/
  hpmcounter : Vector (BitVec 64) 32
  /-- mhpmevent n at index n. -/
  hpmevent : Vector Word 32
  /-- menvcfg, and menvcfgh as bits 63:32 (R160). -/
  menvcfg : Word
  deriving DecidableEq, Repr

/-- The PMP configuration and address registers, by entry (21_pmp R403 to R406). -/
structure Pmp where
  cfg : Vector (BitVec 8) 64
  addr : Vector Word 64
  deriving DecidableEq, Repr

/-- The supervisor CSRs that are not views of machine CSRs (12_csr_supervisor). -/
structure SCsrs where
  stvec : Word
  sscratch : Word
  sepc : Word
  scause : Word
  stval : Word
  satp : Word
  scounteren : BitVec 32
  senvcfg : Word
  deriving DecidableEq, Repr

/-- The hypervisor CSRs that are stored (13_csr_hypervisor sections 2 to 10). -/
structure HCsrs where
  hstatus : Word
  hedeleg : Word
  hideleg : Word
  hvip : Word
  hgeie : Word
  /-- henvcfg, and henvcfgh as bits 63:32 (R279). -/
  henvcfg : Word
  hcounteren : BitVec 32
  /-- htimedelta, and htimedeltah as bits 63:32 (R284). -/
  htimedelta : BitVec 64
  htval : Word
  htinst : Word
  hgatp : Word
  deriving DecidableEq, Repr

/-- The virtual supervisor CSRs that are stored (13_csr_hypervisor section 12). -/
structure VCsrs where
  vsstatus : Word
  vstvec : Word
  vsscratch : Word
  vsepc : Word
  vscause : Word
  vstval : Word
  vsatp : Word
  deriving DecidableEq, Repr

/-- The platform's registers and the lines it drives (10_state R80, R83; 60_exceptions R850 to R853). -/
structure Platform where
  mtime : BitVec 64
  /-- This hart's; other harts' registers are bytes of `State.mem` (entry 17). -/
  mtimecmp : BitVec 64
  /-- Bit 0 of this hart's msip. -/
  msip : Bool
  /-- The machine external interrupt line. -/
  mei : Bool
  /-- The supervisor external interrupt line E. -/
  sei : Bool
  /-- The guest external interrupt lines, line i at bit i. -/
  gei : Word
  /-- The non-maskable interrupt line. -/
  nmi : Bool
  deriving DecidableEq, Repr

/-- The load reservation: the index of the aligned block that is the reservation set, and the LR's physical and effective
address and size (10_state R81, 45_a R702). -/
structure Reservation where
  block : Nat
  addr : Nat
  ea : Word
  size : Nat
  deriving DecidableEq, Repr

/-- The stage a page table belongs to (22_translation R470). -/
inductive Stage where
  /-- Tables rooted at satp. -/
  | single
  /-- Tables rooted at vsatp. -/
  | vs
  /-- Tables rooted at hgatp. -/
  | g
  deriving DecidableEq, Repr

/-- An entry of the address-translation cache TC (22_translation R470). -/
structure TcEntry where
  stage : Stage
  asid : Nat
  vmid : Nat
  /-- The address of the page-table entry, as the walk uses it. -/
  pteAddr : Nat
  pte : Word
  global : Bool
  /-- What the entry has been used to translate: the size of a page at the level it served, as a power of two, and the page's
  number. A fence with an address in one of these pages removes the entry, if it may be a leaf (46_privileged R750). -/
  used : List (Nat × Nat)
  /-- The virtual (at the G stage guest physical) addresses that fences have named since the entry was read, though it had not
  been used for them: it serves none of them any more (R471). -/
  fenced : List Nat
  deriving DecidableEq, Repr

/-- A speculative walk the implementation makes (22_translation R473). -/
structure SpecWalk where
  /-- The tables that translate the address: satp's, vsatp's with hgatp's after them, or hgatp's alone. -/
  stage : Stage
  /-- A virtual address, or, for hgatp's tables alone, a guest physical one. -/
  addr : Word
  /-- As for a fetch; otherwise as for a load. -/
  fetch : Bool
  /-- As for user mode; otherwise as for supervisor mode. -/
  user : Bool
  /-- The A bits of single-stage and G-stage entries it uses may be set, in the hardware-update scheme (R446). -/
  setA : Bool
  /-- Those of VS-stage entries may be, where 13_csr_hypervisor R321 lets them. -/
  setAVs : Bool
  deriving DecidableEq, Repr

/-- One event of the environment, consumed at an instruction boundary (entry 14). -/
structure Input where
  mei : Bool
  sei : Bool
  gei : Word
  nmi : Bool
  /-- The hart is reset (70_reset_and_hazards R932). -/
  reset : Bool
  /-- Bytes other harts store, to memory or to the memory-mapped registers (45_a R708, 60_exceptions R871). -/
  stores : List Host.Cell
  /-- Bytes devices store, to either (45_a R708). -/
  deviceStores : List Host.Cell
  /-- A device's write to the reservation set, though not to the LR's bytes, ends the reservation (45_a R708). -/
  dropResv : Bool
  /-- Another hart writes the whole of this hart's msip (60_exceptions R853). -/
  msip : Option Bool
  /-- Another hart writes the whole of mtime (60_exceptions R852). -/
  mtime : Option (BitVec 64)
  /-- Another hart writes the whole of this hart's mtimecmp (10_state R80 sets no limit on who may). -/
  mtimecmp : Option (BitVec 64)
  walks : List SpecWalk
  deriving DecidableEq, Repr

/-- The whole state. -/
structure State where
  /-- The parameters of R14. No step changes them (entry 20). -/
  cfg : Config
  /-- x0 to x31 (10_state R50). -/
  regs : Vector Word 32
  pc : Word
  priv : Priv
  /-- The virtualization mode V (10_state R63). -/
  virt : Bool
  m : MCsrs
  pmp : Pmp
  sv : SCsrs
  h : HCsrs
  vs : VCsrs
  plat : Platform
  /-- Memory in its canonical form (`Memory.wf`). -/
  mem : List Host.Cell
  resv : Option Reservation
  /-- The WFI stall bit (10_state R85). -/
  stalled : Bool
  /-- The address-translation cache (10_state R82). -/
  tc : List TcEntry
  /-- Values that 4-byte-aligned words held since the last FENCE.I, with their addresses (20_memory R385). -/
  istale : List (Nat × Inst)
  /-- PMP settings an access may still be checked against, until SFENCE.VMA x0, x0 in M-mode (21_pmp R417, R418). -/
  pmpStale : List Pmp
  /-- The same for accesses of a guest, until HFENCE.GVMA x0, x0 (22_translation R488). -/
  pmpStaleG : List Pmp
  /-- The environment's schedule: one event a step, nothing more happens once it is empty (entry 14). -/
  inputs : List Input
  /-- How many free values have been drawn (entry 21). -/
  draws : Nat
  deriving DecidableEq, Repr

/-- MPP's value at reset where none is stated: the least-privileged supported mode, a legal value (entry 2). -/
def resetMpp (c : Config) : Word := if c.hasU then 0 else 0x1800

/-- The machine right after reset in configuration `c` (R930, R931). Every register whose reset value the spec leaves
UNSPECIFIED is zero, MPP apart (DESIGN CHOICE, unsafe: entry 2). -/
def State.resetIn (c : Config) : State where
  cfg := c
  regs := Vector.replicate 32 0
  pc := c.resetVector
  priv := .M
  virt := false
  m :=
    { mstatus := resetMpp c, mtvec := 0, medeleg := 0, mideleg := 0, mie := 0, mip := 0, mscratch := 0, mepc := 0,
      mcause := 0, mtval := 0, mtval2 := 0, mtinst := 0, mcounteren := 0, mcountinhibit := 0, mcycle := 0, minstret := 0,
      hpmcounter := Vector.replicate 32 0, hpmevent := Vector.replicate 32 0, menvcfg := 0 }
  pmp := { cfg := Vector.replicate 64 0, addr := Vector.replicate 64 0 }
  sv := { stvec := 0, sscratch := 0, sepc := 0, scause := 0, stval := 0, satp := 0, scounteren := 0, senvcfg := 0 }
  h :=
    { hstatus := 0, hedeleg := 0, hideleg := 0, hvip := 0, hgeie := 0, henvcfg := 0, hcounteren := 0, htimedelta := 0,
      htval := 0, htinst := 0, hgatp := 0 }
  vs := { vsstatus := 0, vstvec := 0, vsscratch := 0, vsepc := 0, vscause := 0, vstval := 0, vsatp := 0 }
  plat := { mtime := 0, mtimecmp := 0, msip := false, mei := false, sei := false, gei := 0, nmi := false }
  mem := []
  resv := none
  stalled := false
  tc := []
  istale := []
  pmpStale := []
  pmpStaleG := []
  inputs := []
  draws := 0

/-- The machine right after reset, in the reference configuration. -/
def State.reset : State := State.resetIn Config.reference

end Sys2Proof.Machine

/-! ### The pace of time

The sources say neither how long an instruction takes nor whether that depends on the values of its operands; 44_m R699 and
70_reset_and_hazards R950 leave both open. How far a counter advances in a step is therefore a constant with no body applied
to the whole state the step starts from, the registers, memory and `State.draws` among it: an unconstrained function of the
operands, with no relation between the three (DESIGN CHOICE, safe: entry 6). -/

namespace Sys2Proof.Config

/-- By how much mtime advances in a step from that state (TICK of R14; 60_exceptions R852). -/
opaque mtimeAdvance : Machine.State → BitVec 64

/-- By how much mcycle advances in a step from that state, whatever its latency depends on: for a multiplication or a
division, the operands too (11_csr_machine R142, 44_m R699; DESIGN CHOICE: entry 6). -/
opaque cycleAdvance : Machine.State → BitVec 64

/-- By how much an implemented event counter advances in a step from that state, given its index and its event selector
(11_csr_machine R143). -/
opaque hpmAdvance : Machine.State → Nat → Word → BitVec 64

end Sys2Proof.Config
end

