-- ==== Sys2Proof/Machine/Bits.lean ====
section
/-! DEFINITION. Bit fields, sign extension and byte order (00_scope R15, R17; 20_memory R336). -/

namespace Sys2Proof.Machine

/-- The mask with bits lo to lo+len-1 set. -/
def fieldMask (lo len : Nat) : Word := (BitVec.ofNat 64 (2 ^ len - 1)) <<< lo

/-- The mask with bit i set. -/
def bitMask (i : Nat) : Word := BitVec.ofNat 64 (2 ^ i)

/-- `old` with the bits of `mask` taken from `new`. -/
def merge (mask old new : Word) : Word := (old &&& ~~~mask) ||| (new &&& mask)

/-- Bits lo to lo+len-1 as a number. -/
def getField (w : Word) (lo len : Nat) : Nat := (w >>> lo).toNat % 2 ^ len

/-- `w` with bits lo to lo+len-1 set to the low bits of `v`. -/
def setField (w : Word) (lo len v : Nat) : Word := merge (fieldMask lo len) w ((BitVec.ofNat 64 v) <<< lo)

/-- `w` with bit i set to `b`. -/
def setBit (w : Word) (i : Nat) (b : Bool) : Word := if b then w ||| bitMask i else w &&& ~~~(bitMask i)

/-- 1 or 0. -/
def boolWord (b : Bool) : Word := if b then 1 else 0

/-- The low 32 bits. -/
def low32 (w : Word) : BitVec 32 := w.setWidth 32

/-- A 32-bit value sign-extended to 64 bits (00_scope R17). -/
def sext32 (v : BitVec 32) : Word := v.signExtend 64

/-- The low n bytes of a value, least significant first. -/
def bytesOf : Nat → Word → List Byte
  | 0, _ => []
  | n + 1, v => v.setWidth 8 :: bytesOf n (v >>> 8)

/-- The value whose bytes these are, least significant first. -/
def ofBytes : List Byte → Word
  | [] => 0
  | b :: bs => (b.setWidth 64) ||| (ofBytes bs <<< 8)

/-- Memory's bytes of a value, lowest address first: reversed when big-endian (20_memory R336). -/
def orderBytes (big : Bool) (bs : List Byte) : List Byte := if big then bs.reverse else bs

/-- The low 8n bits of a value sign-extended (R17); n is 1, 2, 4 or 8. -/
def sextBytes (n : Nat) (v : Word) : Word :=
  if n = 1 then (v.setWidth 8).signExtend 64
  else if n = 2 then (v.setWidth 16).signExtend 64
  else if n = 4 then (v.setWidth 32).signExtend 64
  else v

/-- The low 8n bits of a value zero-extended (R17). -/
def zextBytes (n : Nat) (v : Word) : Word := v &&& fieldMask 0 (8 * n)

/-- The number of trailing one bits among the low `fuel` bits (21_pmp R408). -/
def trailingOnes : Nat → Word → Nat
  | 0, _ => 0
  | fuel + 1, w => if w.getLsbD 0 then 1 + trailingOnes fuel (w >>> 1) else 0

/-- The number of bits needed to write n, for n below 64. -/
def bitLength (n : Nat) : Nat := ((List.range 6).filter fun i => 2 ^ i ≤ n).length

end Sys2Proof.Machine
end

