-- ==== Sys2Proof/Machine/Operands.lean ====
section
/-! DEFINITION. Operands: registers, immediates, the program counter, and what the integer instructions compute from
their operands (10_state R50 to R58, 40_rv32i, 41_rv64i, 44_m). -/

namespace Sys2Proof.Machine

/-- A value at width XLEN (00_scope R16): at XLEN = 32 the high half is dropped. -/
def wrap (c : Config) (v : Word) : Word := if c.rv64 then v else v &&& 0xFFFFFFFF

/-- The two's-complement reading of an XLEN-bit value, as 64 bits. -/
def signed (c : Config) (v : Word) : Word := if c.rv64 then v else sext32 (low32 v)

/-- One more free value has been drawn (entry 21). -/
def drawn (s : State) : State := { s with draws := s.draws + 1 }

/-- x[r]; x0 reads 0 (10_state R51). -/
def rX (s : State) (r : Reg) : Word := if r = 0 then 0 else wrap s.cfg (s.regs.get r.toFin)

/-- x[r] <- v; a write to x0 is discarded (R51). -/
def wX (s : State) (r : Reg) (v : Word) : State :=
  if r = 0 then s else { s with regs := s.regs.set r.toNat (wrap s.cfg v) r.isLt }

/-- pc <- t, at width XLEN (R57). -/
def setPc (s : State) (t : Word) : State := { s with pc := wrap s.cfg t }

/-- pc + 4, modulo 2^XLEN (R58). -/
def nextPc (s : State) : Word := wrap s.cfg (s.pc + 4)

/-! ### Immediates, sign-extended to XLEN (30_encoding R505) -/

/-- The 12-bit immediate of the I and S formats. -/
def immXlen (c : Config) (imm : BitVec 12) : Word := wrap c (imm.signExtend 64)

/-- The U immediate: 20 bits above twelve zeros. -/
def immUpper (c : Config) (imm : BitVec 20) : Word := wrap c ((imm ++ (0 : BitVec 12)).signExtend 64)

/-- The branch offset: 12 bits above a zero. -/
def branchOffset (imm : BitVec 12) : Word := (imm ++ (0 : BitVec 1)).signExtend 64

/-- The JAL offset: 20 bits above a zero. -/
def jalOffset (imm : BitVec 20) : Word := (imm ++ (0 : BitVec 1)).signExtend 64

/-- The effective address x[rs1] + sext(imm), modulo 2^XLEN (40_rv32i R590). -/
def effAddr (s : State) (rs1 : Reg) (imm : BitVec 12) : Word := wrap s.cfg (rX s rs1 + imm.signExtend 64)

/-! ### Arithmetic and logic at XLEN (40_rv32i R554 to R572) -/

/-- The number of bits shifted by: the low 5 bits at XLEN = 32, 6 at XLEN = 64 (R565). -/
def shiftAmount (c : Config) (v : Word) : Nat := v.toNat % (if c.rv64 then 64 else 32)

/-- Signed less-than (R566). -/
def ltS (c : Config) (a b : Word) : Bool := (signed c a).slt (signed c b)

/-- Unsigned less-than (R567). -/
def ltU (c : Config) (a b : Word) : Bool := (wrap c a).ult (wrap c b)

def opSll (c : Config) (a : Word) (n : Nat) : Word := wrap c (a <<< n)

def opSrl (c : Config) (a : Word) (n : Nat) : Word := wrap c a >>> n

def opSra (c : Config) (a : Word) (n : Nat) : Word := wrap c ((signed c a).sshiftRight n)

/-! ### The W instructions: 32 bits computed, sign-extended (41_rv64i R621) -/

/-- The low 5 bits of a register, a W shift's amount (R628). -/
def shiftAmountW (v : Word) : Nat := v.toNat % 32

def opAddw (a b : Word) : Word := sext32 (low32 a + low32 b)

def opSubw (a b : Word) : Word := sext32 (low32 a - low32 b)

def opSllw (a : Word) (n : Nat) : Word := sext32 (low32 a <<< n)

def opSrlw (a : Word) (n : Nat) : Word := sext32 (low32 a >>> n)

def opSraw (a : Word) (n : Nat) : Word := sext32 ((low32 a).sshiftRight n)

/-! ### Multiplication and division (44_m). The exact result is computed over the integers, then narrowed. -/

/-- The signed reading of the low L bits. -/
def intOf (L : Nat) (v : Word) : Int := (v.setWidth L).toInt

/-- The unsigned reading of the low L bits. -/
def natOf (L : Nat) (v : Word) : Nat := (v.setWidth L).toNat

/-- An exact result narrowed to XLEN bits. -/
def narrow (c : Config) (z : Int) : Word := wrap c (BitVec.ofInt 64 z)

/-- The high XLEN bits of an exact product (R683 to R685). -/
def highHalf (c : Config) (z : Int) : Word := narrow c (z / 2 ^ c.xlen)

/-- Signed quotient of L-bit operands, rounding toward zero; the corners of R688 (Table 9.1). -/
def divS (L : Nat) (a b : Int) : Int :=
  if b = 0 then -1 else if a = -(2 ^ (L - 1)) ∧ b = -1 then a else a.tdiv b

/-- Signed remainder of L-bit operands, with the dividend's sign; the corners of R688. -/
def remS (L : Nat) (a b : Int) : Int :=
  if b = 0 then a else if a = -(2 ^ (L - 1)) ∧ b = -1 then 0 else a.tmod b

/-- Unsigned quotient of L-bit operands; division by zero gives all ones (R688). -/
def divU (L : Nat) (a b : Nat) : Nat := if b = 0 then 2 ^ L - 1 else a / b

/-- Unsigned remainder; of division by zero the dividend (R688). -/
def remU (a b : Nat) : Nat := if b = 0 then a else a % b

def opMul (c : Config) (a b : Word) : Word := wrap c (a * b)

def opMulh (c : Config) (a b : Word) : Word := highHalf c (intOf c.xlen a * intOf c.xlen b)

def opMulhsu (c : Config) (a b : Word) : Word := highHalf c (intOf c.xlen a * natOf c.xlen b)

def opMulhu (c : Config) (a b : Word) : Word := highHalf c (natOf c.xlen a * natOf c.xlen b)

def opDiv (c : Config) (a b : Word) : Word := narrow c (divS c.xlen (intOf c.xlen a) (intOf c.xlen b))

def opDivu (c : Config) (a b : Word) : Word := narrow c (divU c.xlen (natOf c.xlen a) (natOf c.xlen b))

def opRem (c : Config) (a b : Word) : Word := narrow c (remS c.xlen (intOf c.xlen a) (intOf c.xlen b))

def opRemu (c : Config) (a b : Word) : Word := narrow c (remU (natOf c.xlen a) (natOf c.xlen b))

def opMulw (a b : Word) : Word := sext32 (low32 a * low32 b)

def opDivw (a b : Word) : Word := sext32 (BitVec.ofInt 32 (divS 32 (intOf 32 a) (intOf 32 b)))

def opDivuw (a b : Word) : Word := sext32 (BitVec.ofNat 32 (divU 32 (natOf 32 a) (natOf 32 b)))

def opRemw (a b : Word) : Word := sext32 (BitVec.ofInt 32 (remS 32 (intOf 32 a) (intOf 32 b)))

def opRemuw (a b : Word) : Word := sext32 (BitVec.ofNat 32 (remU (natOf 32 a) (natOf 32 b)))

/-! ### The AMO operations on n-byte operands (45_a R717 to R734) -/

/-- Which operation an AMO performs. -/
inductive AmoOp where
  | swap
  | add
  | xor
  | and
  | or
  | min
  | max
  | minu
  | maxu
  deriving DecidableEq, Repr

/-- op(old, src): n is 4 or 8, the values n bytes wide. -/
def amoResult (op : AmoOp) (n : Nat) (old src : Word) : Word :=
  let sOld := sextBytes n old
  let sSrc := sextBytes n src
  let uOld := zextBytes n old
  let uSrc := zextBytes n src
  match op with
  | .swap => src
  | .add => old + src
  | .xor => old ^^^ src
  | .and => old &&& src
  | .or => old ||| src
  | .min => if sOld.slt sSrc then old else src
  | .max => if sOld.slt sSrc then src else old
  | .minu => if uOld.ult uSrc then old else src
  | .maxu => if uOld.ult uSrc then src else old

/-- The AMO class an operation needs of its region (20_memory R353). -/
def AmoOp.needs : AmoOp → AmoClass
  | .swap => .swap
  | .xor => .logical
  | .and => .logical
  | .or => .logical
  | .add => .arithmetic
  | .min => .arithmetic
  | .max => .arithmetic
  | .minu => .arithmetic
  | .maxu => .arithmetic

/-- The classes, weakest first. -/
def amoRank : AmoClass → Nat
  | .none => 0
  | .swap => 1
  | .logical => 2
  | .arithmetic => 3

end Sys2Proof.Machine
end

