-- ==== Sys2Proof/Machine/Flags.lean ====
section
/-! DEFINITION. Status and control bits: which bits of each status register exist, which are writable, and what reads
compose (11_csr_machine R112 to R141, 13_csr_hypervisor). The ISA has no condition flags (10_state R61). -/

namespace Sys2Proof.Machine

/-! ### mstatus, in the 64-bit layout of R112 (mstatush is its bits 63:32) -/

def SIE : Nat := 1
def MIE : Nat := 3
def SPIE : Nat := 5
def UBE : Nat := 6
def MPIE : Nat := 7
def SPP : Nat := 8
def MPP : Nat := 11
def MPRV : Nat := 17
def SUM : Nat := 18
def MXR : Nat := 19
def TVM : Nat := 20
def TW : Nat := 21
def TSR : Nat := 22
def UXL : Nat := 32
def SXL : Nat := 34
def SBE : Nat := 36
def MBE : Nat := 37
def GVA : Nat := 38
def MPV : Nat := 39

/-! ### hstatus (13_csr_hypervisor R254) -/

def VSBE : Nat := 5
def HGVA : Nat := 6
def SPV : Nat := 7
def SPVP : Nat := 8
def HU : Nat := 9
def VGEIN : Nat := 12
def VTVM : Nat := 20
def VTW : Nat := 21
def VTSR : Nat := 22
def VSXL : Nat := 32

/-- The mask of `bits` if `b`, else nothing. -/
def maskIf (b : Bool) (m : Word) : Word := if b then m else 0

/-- One endianness bit's contribution to a write mask (R121). -/
def EndianBit.writeMask (e : EndianBit) (i : Nat) : Word := maskIf (e == .writable) (bitMask i)

/-- One endianness bit's fixed value. -/
def EndianBit.fixed (e : EndianBit) (i : Nat) : Word := maskIf (e == .one) (bitMask i)

/-- The writable bits of mstatus (R125, R121), MPP among them. -/
def mstatusMask (c : Config) : Word :=
  bitMask MIE ||| bitMask MPIE ||| fieldMask MPP 2 |||
  maskIf c.hasU (bitMask MPRV ||| bitMask TW ||| EndianBit.writeMask c.ube UBE) |||
  maskIf c.hasS (bitMask SIE ||| bitMask SPIE ||| bitMask SPP ||| bitMask MXR ||| bitMask TVM ||| bitMask TSR |||
    EndianBit.writeMask c.sbe SBE) |||
  maskIf c.hasPaging (bitMask SUM) ||| EndianBit.writeMask c.mbe MBE |||
  maskIf c.hasH (bitMask MPV ||| bitMask GVA)

/-- The fixed bits of mstatus: UXL, SXL (R117) and read-only-one endianness bits (R121). -/
def mstatusFixed (c : Config) : Word :=
  maskIf (c.rv64 && c.hasU) (2 <<< UXL) ||| maskIf (c.rv64 && c.hasS) (2 <<< SXL) |||
  maskIf c.hasU (EndianBit.fixed c.ube UBE) ||| maskIf c.hasS (EndianBit.fixed c.sbe SBE) ||| EndianBit.fixed c.mbe MBE

/-- mstatus as a read sees it, in the 64-bit layout. -/
def mstatusRead (s : State) : Word := (s.m.mstatus &&& mstatusMask s.cfg) ||| mstatusFixed s.cfg

/-- A bit of mstatus; an implicit read sees what an explicit one does (10_state R70). -/
def mstatusBit (s : State) (i : Nat) : Bool := (mstatusRead s).getLsbD i

/-- The encoding of a privilege mode (10_state R63). -/
def Priv.code : Priv → Nat
  | .U => 0
  | .S => 1
  | .M => 3

/-- The mode a two-bit field encodes; level 2 is never legal and reads as the least mode. -/
def Priv.ofCode (n : Nat) : Priv := if n = 3 then .M else if n = 1 then .S else .U

/-- mstatus.MPP as a mode. -/
def mpp (s : State) : Priv := Priv.ofCode (getField (mstatusRead s) MPP 2)

/-- The value is a legal MPP: an implemented mode (R116). -/
def mppLegal (c : Config) (n : Nat) : Bool := n == 3 || (n == 0 && c.hasU) || (n == 1 && c.hasS)

/-- The least-privileged supported mode (R115). -/
def leastPriv (c : Config) : Priv := if c.hasU then .U else .M

/-- A CSR write of mstatus: the bits of `mask` that are writable change, an illegal MPP leaves MPP as it was (R116, R125). -/
def mstatusWrite (s : State) (mask v : Word) : State :=
  let v' := if mppLegal s.cfg (getField v MPP 2) then v else merge (fieldMask MPP 2) v s.m.mstatus
  { s with m := { s.m with mstatus := merge (mask &&& mstatusMask s.cfg) s.m.mstatus v' } }

/-- mstatus with one stored bit set. -/
def setMstatus (s : State) (i : Nat) (b : Bool) : State :=
  { s with m := { s.m with mstatus := setBit s.m.mstatus i b } }

/-- mstatus with MPP set to a mode. -/
def setMpp (s : State) (p : Priv) : State :=
  { s with m := { s.m with mstatus := setField s.m.mstatus MPP 2 p.code } }

/-! ### sstatus and vsstatus (12_csr_supervisor R200, R204; 13_csr_hypervisor R312) -/

/-- The fields of mstatus visible in sstatus: SIE, SPIE, UBE, SPP, SUM, MXR, UXL; FS, VS, XS, SD read 0 (R120). -/
def sstatusMask (c : Config) : Word :=
  bitMask SIE ||| bitMask SPIE ||| bitMask UBE ||| bitMask SPP ||| bitMask SUM ||| bitMask MXR |||
  maskIf c.rv64 (fieldMask UXL 2)

def sstatusRead (s : State) : Word := mstatusRead s &&& sstatusMask s.cfg

/-- The writable bits of vsstatus (R312); SUM under the condition of sstatus. -/
def vsstatusMask (c : Config) : Word :=
  bitMask SIE ||| bitMask SPIE ||| bitMask SPP ||| bitMask SUM ||| bitMask MXR ||| EndianBit.writeMask c.vsube UBE

def vsstatusFixed (c : Config) : Word := maskIf c.rv64 (2 <<< UXL) ||| EndianBit.fixed c.vsube UBE

def vsstatusRead (s : State) : Word := (s.vs.vsstatus &&& vsstatusMask s.cfg) ||| vsstatusFixed s.cfg

def vsstatusBit (s : State) (i : Nat) : Bool := (vsstatusRead s).getLsbD i

def setVsstatus (s : State) (i : Nat) (b : Bool) : State :=
  { s with vs := { s.vs with vsstatus := setBit s.vs.vsstatus i b } }

/-! ### hstatus (R254 to R263) -/

/-- The implemented bits of VGEIN (R256). -/
def vgeinMask (c : Config) : Word := fieldMask VGEIN (bitLength c.geiLen)

def hstatusMask (c : Config) : Word :=
  bitMask HGVA ||| bitMask SPV ||| bitMask SPVP ||| bitMask HU ||| bitMask VTVM ||| bitMask VTW ||| bitMask VTSR |||
  vgeinMask c ||| EndianBit.writeMask c.vsbe VSBE

def hstatusFixed (c : Config) : Word := maskIf c.rv64 (2 <<< VSXL) ||| EndianBit.fixed c.vsbe VSBE

def hstatusRead (s : State) : Word := (s.h.hstatus &&& hstatusMask s.cfg) ||| hstatusFixed s.cfg

def hstatusBit (s : State) (i : Nat) : Bool := (hstatusRead s).getLsbD i

def setHstatus (s : State) (i : Nat) (b : Bool) : State :=
  { s with h := { s.h with hstatus := setBit s.h.hstatus i b } }

/-! ### Delegation (11_csr_machine R131, R132; 13_csr_hypervisor R265, R266, R301) -/

def medelegMask (c : Config) : Word := (0xB3FF ||| maskIf c.hasH 0xF00400) &&& c.medelegMask

def midelegMask (c : Config) : Word := 0x222 &&& c.midelegMask

/-- The read-only-one bits of mideleg with H (R301). -/
def midelegOnes (c : Config) : Word := maskIf c.hasH (0x444 ||| maskIf (c.geiLen != 0) 0x1000)

def hedelegMask (c : Config) : Word := 0xB1FF &&& c.hedelegMask

def hidelegMask : Word := 0x444

def medelegRead (s : State) : Word := s.m.medeleg &&& medelegMask s.cfg

def midelegRead (s : State) : Word := (s.m.mideleg &&& midelegMask s.cfg) ||| midelegOnes s.cfg

def hedelegRead (s : State) : Word := s.h.hedeleg &&& hedelegMask s.cfg

def hidelegRead (s : State) : Word := s.h.hideleg &&& hidelegMask

/-! ### Interrupts pending and enabled (60_exceptions R850, R851; 11_csr_machine R141) -/

/-- The writable bits of mie. SGEIE exists with guest external interrupts only (R272). -/
def mieMask (c : Config) : Word :=
  0x888 ||| maskIf c.hasS 0x222 ||| maskIf c.hasH (0x444 ||| maskIf (c.geiLen != 0) 0x1000)

def mieRead (s : State) : Word := s.m.mie &&& mieMask s.cfg

/-- The bits GEILEN:1 (R277). -/
def geiMask (c : Config) : Word := fieldMask 1 c.geiLen

def hgeipRead (s : State) : Word := s.plat.gei &&& geiMask s.cfg

def hgeieRead (s : State) : Word := s.h.hgeie &&& geiMask s.cfg

/-- The guest external interrupt that VGEIN selects is pending (R273). -/
def vgeinPending (s : State) : Bool :=
  let n := getField (hstatusRead s) VGEIN 6
  n != 0 && (hgeipRead s).getLsbD n

/-- hvip's stored bits (R268). -/
def hvipRead (s : State) : Word := s.h.hvip &&& 0x444

/-- MTIP, without delay (R852, D58). -/
def mtip (s : State) : Bool := s.plat.mtimecmp.ule s.plat.mtime

/-- mip's stored bits: SSIP, STIP and B (R141). -/
def mipStored (s : State) : Word := maskIf s.cfg.hasS (s.m.mip &&& 0x222)

/-- Interrupt i is pending: bit i of mip (R851). -/
def mipBit (s : State) (i : Nat) : Bool :=
  if i = 11 then s.plat.mei
  else if i = 7 then mtip s
  else if i = 3 then s.plat.msip
  else if i = 9 then s.cfg.hasS && ((mipStored s).getLsbD 9 || s.plat.sei)
  else if i = 5 || i = 1 then (mipStored s).getLsbD i
  else if s.cfg.hasH then
    if i = 12 then (hgeipRead s &&& hgeieRead s) != 0
    else if i = 10 then (hvipRead s).getLsbD 10 || vgeinPending s
    else if i = 6 || i = 2 then (hvipRead s).getLsbD i
    else false
  else false

/-- mip as a read sees it (R851). -/
def mipRead (s : State) : Word :=
  [1, 2, 3, 5, 6, 7, 9, 10, 11, 12].foldr (fun i w => w ||| boolWord (mipBit s i) <<< i) 0

/-- Some interrupt is pending and enabled in mie, whatever the global enables and delegation (46_privileged R748). -/
def anyPending (s : State) : Bool :=
  [11, 3, 7, 9, 1, 5, 12, 10, 2, 6].any fun i => (mieRead s).getLsbD i && mipBit s i

end Sys2Proof.Machine
end

