-- ==== Sys2Proof/Machine/Memory.lean ====
section
/-! DEFINITION. Physical memory as a list of (address, byte) pairs in one canonical form, and the memory-mapped registers
(10_state R79, R80; 20_memory R330, R336; 60_exceptions R852, R853). -/

namespace Sys2Proof.Machine

/-- What an address that is not listed reads as (DESIGN CHOICE, unsafe: entry 1). -/
def unlistedByte : Byte := 0

/-- The canonical form: addresses strictly rise and no entry holds what an unlisted address reads as. -/
def Memory.wf : List Host.Cell → Bool
  | [] => true
  | [(_, v)] => v != unlistedByte
  | (a, v) :: (b, w) :: t => v != unlistedByte && decide (a < b) && Memory.wf ((b, w) :: t)

/-- The byte at an address. -/
def Memory.read : List Host.Cell → Nat → Byte
  | [], _ => unlistedByte
  | (b, v) :: t, a => if a = b then v else Memory.read t a

/-- Memory with the byte at an address replaced. -/
def Memory.write : List Host.Cell → Nat → Byte → List Host.Cell
  | [], a, v => if v = unlistedByte then [] else [(a, v)]
  | (b, w) :: t, a, v =>
    if a < b then (if v = unlistedByte then (b, w) :: t else (a, v) :: (b, w) :: t)
    else if a = b then (if v = unlistedByte then t else (a, v) :: t)
    else (b, w) :: Memory.write t a v

/-- The n bytes from an address up. -/
def Memory.readBytes (mem : List Host.Cell) (a : Nat) : Nat → List Byte
  | 0 => []
  | n + 1 => Memory.read mem a :: Memory.readBytes mem (a + 1) n

/-- Memory with bytes written from an address up. -/
def Memory.writeBytes (mem : List Host.Cell) (a : Nat) : List Byte → List Host.Cell
  | [] => mem
  | v :: vs => Memory.writeBytes (Memory.write mem a v) (a + 1) vs

/-- The instruction word at an address: little-endian, whatever the data byte order is (20_memory R338). -/
def Memory.inst (mem : List Host.Cell) (a : Nat) : Inst :=
  Memory.read mem (a + 3) ++ Memory.read mem (a + 2) ++ Memory.read mem (a + 1) ++ Memory.read mem a

/-- The aligned words a write of n bytes at an address touches. -/
def touchedWords (a n : Nat) : List Nat :=
  (List.range ((a % 4 + n + 3) / 4)).map fun k => 4 * (a / 4) + 4 * k

/-- What the changed words held, for fetches that may still see it (20_memory R385). -/
def staleWords (old new : List Host.Cell) (a n : Nat) : List (Nat × Inst) :=
  ((touchedWords a n).filter fun w => Memory.inst old w != Memory.inst new w).map fun w => (w, Memory.inst old w)

/-- Bytes stored to main memory; until FENCE.I a fetch may see the words as they were. -/
def storeBytes (s : State) (a : Nat) (bs : List Byte) : State :=
  let mem := Memory.writeBytes s.mem a bs
  { s with mem := mem, istale := staleWords s.mem mem a bs.length ++ s.istale }

/-! ### Memory-mapped registers -/

/-- The memory-mapped registers (R852, R853): mtime is one, mtimecmp and msip are one for each hart. -/
inductive DevReg where
  | mtime
  | mtimecmp (hart : Nat)
  | msip (hart : Nat)
  deriving DecidableEq, Repr

/-- The n bytes at a touch the m bytes at b. -/
def overlaps (a n b m : Nat) : Bool := decide (a < b + m) && decide (b < a + n)

/-- Which of the registers of `width` bytes from `base` up an access at `a` touches first, and its offset from that
register's address; an access that starts below them has an offset no width supports. -/
def deviceSlot (base width a : Nat) : Nat × Nat :=
  if base ≤ a then ((a - base) / width, (a - base) % width) else (0, 8)

/-- The first register that an access of n bytes touches, and its offset from the register's address. -/
def deviceAt (c : Config) (a n : Nat) : Option (DevReg × Nat) :=
  if overlaps a n c.mtimeBase 8 then some (.mtime, (deviceSlot c.mtimeBase 8 a).2)
  else if overlaps a n c.mtimecmpBase (8 * c.harts) then
    let k := deviceSlot c.mtimecmpBase 8 a
    some (.mtimecmp k.1, k.2)
  else if overlaps a n c.msipBase (4 * c.harts) then
    let k := deviceSlot c.msipBase 4 a
    some (.msip k.1, k.2)
  else none

/-- The widths a register supports: 4 bytes and, at XLEN = 64, 8 for mtime and mtimecmp; msip 4 only (R852, R853). -/
def deviceWidth (c : Config) (r : DevReg) (n : Nat) : Bool :=
  match r with
  | .msip _ => n == 4
  | _ => n == 4 || (c.rv64 && n == 8)

/-- The access is one the register supports: of such a width, and aligned in it. -/
def deviceFits (c : Config) (r : DevReg) (off n : Nat) : Bool := deviceWidth c r n && (off == 0 || (off == 4 && n == 4))

/-- Where another hart's register lies; its bytes are held in memory's list (entry 17). -/
def deviceAddr (c : Config) : DevReg → Nat
  | .mtime => c.mtimeBase
  | .mtimecmp h => c.mtimecmpBase + 8 * h
  | .msip h => c.msipBase + 4 * h

/-- The register is this hart's own, or the one mtime: `Platform` holds it. -/
def deviceOwn (c : Config) : DevReg → Bool
  | .mtime => true
  | .mtimecmp h => h == c.mhartid.toNat
  | .msip h => h == c.mhartid.toNat

/-- What is stored of a register: of msip bit 0 alone (R853). -/
def DevReg.stored : DevReg → Word → Word
  | .msip _, v => v &&& 1
  | _, v => v

/-- The width of a register in bytes. -/
def DevReg.size : DevReg → Nat
  | .msip _ => 4
  | _ => 8

/-- The value of a register. -/
def deviceValue (s : State) (r : DevReg) : Word :=
  if deviceOwn s.cfg r then
    match r with
    | .mtime => s.plat.mtime
    | .mtimecmp _ => s.plat.mtimecmp
    | .msip _ => boolWord s.plat.msip
  else r.stored (ofBytes (Memory.readBytes s.mem (deviceAddr s.cfg r) r.size))

/-- A register's bytes from an offset up, least significant first (R852). -/
def deviceRead (s : State) (r : DevReg) (off n : Nat) : List Byte := bytesOf n (deviceValue s r >>> (8 * off))

/-- A register set to a value. -/
def setDevice (s : State) (r : DevReg) (v : Word) : State :=
  if deviceOwn s.cfg r then
    match r with
    | .mtime => { s with plat := { s.plat with mtime := v } }
    | .mtimecmp _ => { s with plat := { s.plat with mtimecmp := v } }
    | .msip _ => { s with plat := { s.plat with msip := v.getLsbD 0 } }
  else { s with mem := Memory.writeBytes s.mem (deviceAddr s.cfg r) (bytesOf r.size (r.stored v)) }

/-- A register written at an offset: the other half of a 64-bit register keeps its value (R852). -/
def deviceWrite (s : State) (r : DevReg) (off : Nat) (bs : List Byte) : State :=
  setDevice s r (merge (fieldMask (8 * off) (8 * bs.length)) (deviceValue s r) (ofBytes bs <<< (8 * off)))

end Sys2Proof.Machine
end

