-- ==== Sys2Proof/Machine/Pmp.lean ====
section
/-! DEFINITION. Physical memory attributes and physical memory protection (20_memory R350 to R355, 21_pmp). -/

namespace Sys2Proof.Machine

/-- The type of an access (22_translation R430): `hlvx` is a load that needs execute permission instead of read. -/
inductive Acc where
  | exec
  | load
  | hlvx
  | store
  deriving DecidableEq, Repr

/-- What an access asks of the memory attributes (20_memory R351 to R354). -/
inductive PmaUse where
  | exec
  | load
  | hlvx
  | store
  | lr
  | sc
  | amo (op : AmoOp)
  | ptRead
  | ptWrite
  deriving DecidableEq, Repr

/-! ### Physical memory attributes -/

/-- The region that holds all `len` bytes from an address up (R350). -/
def regionOf (c : Config) (a len : Nat) : Option Region :=
  c.pma.find? fun r => decide (r.base ≤ a) && decide (a + len ≤ r.base + r.size)

/-- The access of width n is aligned; `len` is less than n for a part of a misaligned access (R346). -/
def alignedPart (a len n : Nat) : Bool := a % n == 0 && len == n

/-- A page-based memory type replaces memory type, cacheability, ordering and idempotency; the rest is inherited
(22_translation R462, R463). IO means strong channel 0, over an I/O region too, of which R463 does not speak (entry 12). -/
def override (r : Region) (t : Pbmt) : Region :=
  match t with
  | .pma => r
  | .nc =>
    { r with kind := .main, ordering := .rvwmo, cacheable := false, idempotentReads := true, idempotentWrites := true }
  | .io =>
    { r with kind := .io, ordering := .strong 0, cacheable := false, idempotentReads := false, idempotentWrites := false }

/-- The final attributes of an access: the platform's for its region, overridden. Nothing overrides a vacant address
(22_translation R463). -/
def attributes (c : Config) (t : Pbmt) (a len : Nat) : Option Region := (regionOf c a len).map (override · t)

/-- The kinds that accesses to a page of a region count as for FENCE, aq and rl: both where the type overrides one kind by
the other (22_translation R463). -/
def fenceKinds (r : Region) (t : Pbmt) : List MemKind :=
  if (override r t).kind = r.kind then [r.kind] else [.main, .io]

/-- The region supports the access of width n at the address (R350 to R354). Only where MISALIGNED = supported is a
misaligned load or store judged here, for its width; otherwise `access` raises its exception (R344, R345). -/
def regionAllows (c : Config) (r : Region) (a len n : Nat) (u : PmaUse) : Bool :=
  let rd := r.readWidths.contains n
  let wr := r.writeWidths.contains n
  let al := c.misaligned != .supported || alignedPart a len n
  let rdAl := al || r.readMisaligned.contains n
  let ex := r.execWidths.contains n
  match u with
  | .exec => ex
  | .load => rd && rdAl
  | .hlvx => rd && rdAl && ex && (al || r.execMisaligned.contains n)
  | .store => wr && (al || r.writeMisaligned.contains n)
  | .lr => rd && r.rsrv != .none
  | .sc => wr && r.rsrv != .none
  | .amo op => rd && wr && decide (amoRank op.needs ≤ amoRank r.amo)
  | .ptRead => rd && r.ptRead
  | .ptWrite => wr && r.ptWrite

/-- A register that the bytes touch allows the access: one of the widths it supports, aligned (or left to `access`, as in
`regionAllows`), and no atomic one (60_exceptions R852, R853). -/
def deviceAllows (c : Config) (a len n : Nat) (u : PmaUse) : Bool :=
  match deviceAt c a len with
  | none => true
  | some (r, off) =>
    match u with
    | .lr => false
    | .sc => false
    | .amo _ => false
    | _ => if c.misaligned != .supported && !alignedPart a len n then deviceWidth c r n else deviceFits c r off len

/-- The bytes lie in an I/O region of the platform, whatever memory type overrides it. -/
def isIo (c : Config) (a len : Nat) : Bool := (regionOf c a len).any (·.kind == .io)

/-- PMA(pa, n, type) (R350), the attributes overridden by the page's memory type (22_translation R463). -/
def pmaAllows (c : Config) (t : Pbmt) (a len n : Nat) (u : PmaUse) : Bool :=
  match attributes c t a len with
  | none => false
  | some r => regionAllows c r a len n u && (!isIo c a len || deviceAllows c a len n u)

/-! ### PMP entries (21_pmp R403 to R411) -/

/-- The address-matching mode, field A (R406, R407). -/
def pmpA (cfg : BitVec 8) : Nat := (cfg >>> 3).toNat % 4

def pmpL (cfg : BitVec 8) : Bool := cfg.getLsbD 7

/-- The implemented bits of pmpaddr: address bits below PALEN (R405). -/
def pmpAddrMask (c : Config) : Word := fieldMask 0 (min (c.palen - 2) c.xlen)

/-- pmpaddr i as a read sees it, the granularity applied (R410). Where the ones of a NAPOT entry reach past the implemented bits,
which R405 gives as zero, they stay ones up to bit XLEN - 1 (DESIGN CHOICE, unsafe: entry 50). -/
def pmpAddrView (c : Config) (p : Pmp) (i : Fin 64) : Word :=
  let a := p.addr.get i &&& pmpAddrMask c
  if (p.cfg.get i).getLsbD 4 then (if 2 ≤ c.pmpG then a ||| fieldMask 0 (min (c.pmpG - 1) c.xlen) else a)
  else a &&& ~~~(fieldMask 0 c.pmpG)

/-- The bytes entry i matches: from the first number up to, not including, the second (R408, R410). -/
def pmpRange (c : Config) (p : Pmp) (i : Fin 64) : Nat × Nat :=
  let a := pmpAddrView c p i
  match pmpA (p.cfg.get i) with
  | 1 =>
    let lo :=
      if i.val = 0 then 0
      else (p.addr.get ⟨i.val - 1, by omega⟩ &&& pmpAddrMask c &&& ~~~(fieldMask 0 c.pmpG)).toNat * 4
    (lo, a.toNat * 4)
  | 2 => (a.toNat * 4, a.toNat * 4 + 4)
  | 3 =>
    let t := trailingOnes c.xlen a
    let base := a.toNat / 2 ^ (t + 1) * 2 ^ (t + 1) * 4
    (base, base + 2 ^ (t + 3))
  | _ => (0, 0)

/-- Some of the n bytes at an address are in the range. -/
def rangeTouches (r : Nat × Nat) (a n : Nat) : Bool := decide (r.1 < a + n) && decide (a < r.2) && decide (r.1 < r.2)

/-- All of them are. -/
def rangeCovers (r : Nat × Nat) (a n : Nat) : Bool := decide (r.1 ≤ a) && decide (a + n ≤ r.2)

/-- The permissions an entry gives (R406). HLVX needs read and execute (22_translation R485). -/
def pmpPermits (cfg : BitVec 8) (t : Acc) : Bool :=
  match t with
  | .exec => cfg.getLsbD 2
  | .load => cfg.getLsbD 0
  | .hlvx => cfg.getLsbD 0 && cfg.getLsbD 2
  | .store => cfg.getLsbD 1

/-- The first entry that matches any byte decides; `k` entries, up to the last, are still to be tried (R413). -/
def pmpScan (c : Config) (p : Pmp) (a n : Nat) (t : Acc) (priv : Priv) : Nat → Bool
  | 0 => priv == .M
  | k + 1 =>
    let i : Fin 64 := ⟨(c.pmpEntries - 1 - k) % 64, Nat.mod_lt _ (by decide)⟩
    let r := pmpRange c p i
    if rangeTouches r a n then
      rangeCovers r a n && ((!pmpL (p.cfg.get i) && priv == .M) || pmpPermits (p.cfg.get i) t)
    else pmpScan c p a n t priv k

/-- PMPcheck(pa, n, type, P) against given settings (R413). -/
def pmpCheck (c : Config) (p : Pmp) (a n : Nat) (t : Acc) (priv : Priv) : Bool :=
  c.pmpEntries == 0 || pmpScan c p a n t priv c.pmpEntries

end Sys2Proof.Machine
end

