-- ==== Sys2Proof/Machine/Translate.lean ====
section
/-! DEFINITION. Address translation: the page-table walk, two stages, the translation cache, and the PMP check of each
access the walk makes (22_translation R430 to R487, 21_pmp R413 to R418). -/

namespace Sys2Proof.Machine

/-! ### Outcomes of an operation inside an instruction -/

/-- What a synchronous exception reports (60_exceptions R860, R862; 61_hypervisor_traps R905, R907, R914). -/
structure Exc where
  cause : Nat
  tval : Word
  gva : Bool
  /-- The guest physical address, of a guest-page fault. -/
  gpa : Nat
  /-- A G-stage walk for a VS-level table access failed; true if that access was a write (R913). -/
  implicit : Option Bool
  /-- How far the faulting address lies above the original one (R911). -/
  off : Nat
  deriving DecidableEq, Repr

/-- The outcome of an operation: a value, or an exception to take. -/
inductive Res (α : Type) where
  | ok (a : α) (s : State)
  | trap (e : Exc) (s : State)

/-- One operation after another. -/
def Res.bind {α β : Type} (r : Res α) (f : α → State → Res β) : Res β :=
  match r with
  | .ok a s => f a s
  | .trap e s => .trap e s

/-! ### Accesses -/

/-- One access, or one part of a misaligned access. -/
structure Req where
  acc : Acc
  /-- The effective privilege (20_memory R342). -/
  priv : Priv
  /-- The effective virtualization mode. -/
  virt : Bool
  va : Word
  /-- The address of the whole access. -/
  ea : Word
  /-- A speculative walk: no exception is taken, D is never set, and A only where the walk may (R473). -/
  spec : Bool
  /-- A speculative walk may set A bits of single-stage and G-stage entries. -/
  setA : Bool
  /-- And of VS-stage entries. -/
  setAVs : Bool
  deriving DecidableEq, Repr

/-- What translation gives: the physical address, and the page-based memory type that overrides its attributes (R463). -/
structure Mapping where
  pa : Nat
  pbmt : Pbmt
  deriving DecidableEq, Repr

/-- An address that no page-table entry maps. -/
def Mapping.plain (a : Nat) : Mapping := { pa := a, pbmt := .pma }

/-- The memory type of two stages: the VS stage overrides what the G stage leaves (R465). -/
def pbmtOver (g vs : Pbmt) : Pbmt := if vs = .pma then g else vs

/-- The exception of a request, of the kind that goes with its access type. -/
def Req.exc (r : Req) (cause gpa : Nat) (implicit : Option Bool) : Exc where
  cause := cause
  tval := r.va
  gva := r.virt
  gpa := gpa
  implicit := implicit
  off := (r.va - r.ea).toNat

/-- Instruction, load or store/AMO access fault (R445, 21_pmp R402). -/
def accessFault : Acc → Nat
  | .exec => 1
  | .load => 5
  | .hlvx => 5
  | .store => 7

/-- Instruction, load or store/AMO page fault (R448). -/
def pageFault : Acc → Nat
  | .exec => 12
  | .load => 13
  | .hlvx => 13
  | .store => 15

/-- Instruction, load or store/AMO guest-page fault (R483). -/
def guestPageFault : Acc → Nat
  | .exec => 20
  | .load => 21
  | .hlvx => 21
  | .store => 23

/-- Whether the PMP allows the access: against the current settings or, until the fence of R418 or R488, against any
settings not yet synchronised (21_pmp R417). A free value chooses where they differ. -/
def pmpPass (s : State) (guest : Bool) (a n : Nat) (t : Acc) (p : Priv) : Bool × State :=
  let now := pmpCheck s.cfg s.pmp a n t p
  let old := (if guest then s.pmpStaleG else s.pmpStale).map fun st => pmpCheck s.cfg st a n t p
  if old.all (· == now) then (now, s)
  else
    let k := Config.pmpChoice s.draws % (old.length + 1)
    ((now :: old).getD k now, drawn s)

/-- The PMA and PMP checks of an access of n bytes, `len` of which are made here (20_memory R340 steps 4, 5). -/
def checkPhys (s : State) (r : Req) (u : PmaUse) (t : Acc) (p : Priv) (m : Mapping) (len n : Nat) : Res Unit :=
  if pmaAllows s.cfg m.pbmt m.pa len n u then
    match pmpPass s r.virt m.pa len t p with
    | (true, s1) => .ok () s1
    | (false, s1) => .trap (r.exc (accessFault r.acc) 0 none) s1
  else .trap (r.exc (accessFault r.acc) 0 none) s

/-- What a device that the spec does not describe answers: free bytes (20_memory R359; entry 13). -/
def unknownRead (s : State) (n : Nat) : List Byte := (List.range n).map (Config.deviceByte s.draws)

/-- The bytes at a physical address (20_memory R340 step 6). -/
def physRead (s : State) (a n : Nat) : Res (List Byte) :=
  if isIo s.cfg a n then
    match deviceAt s.cfg a n with
    | some (d, off) => .ok (deviceRead s d off n) s
    | none => .ok (unknownRead s n) (drawn s)
  else .ok (Memory.readBytes s.mem a n) s

/-- The state with bytes written at a physical address, by this hart or another agent. A device that the spec does not
describe takes them, and no state of the hart changes; what it then does reaches the hart through `State.inputs` (entry 13). -/
def physStore (s : State) (a : Nat) (bs : List Byte) : State :=
  if isIo s.cfg a bs.length then
    match deviceAt s.cfg a bs.length with
    | some (d, off) => deviceWrite s d off bs
    | none => s
  else storeBytes s a bs

/-- Bytes written at a physical address. -/
def physWrite (s : State) (a : Nat) (bs : List Byte) : Res Unit := .ok () (physStore s a bs)

/-! ### Schemes and roots (R440, R483; 12_csr_supervisor R223 to R226; 13_csr_hypervisor R288 to R292) -/

/-- The number of levels of a MODE; 0 for Bare. -/
def svLevels (mode : Nat) : Nat :=
  if mode = 1 then 2 else if mode = 8 then 3 else if mode = 9 then 4 else if mode = 10 then 5 else 0

/-- The MODE field of satp, vsatp or hgatp. -/
def atpMode (c : Config) (v : Word) : Nat := if c.rv64 then getField v 60 4 else getField v 31 1

/-- The PPN field. -/
def atpPpn (c : Config) (v : Word) : Nat := if c.rv64 then getField v 0 44 else getField v 0 22

/-- The implemented PPN bits: those below PALEN - 12 (R434). -/
def ppnMask (c : Config) : Word := fieldMask 0 (c.palen - 12)

/-- The implemented bits of satp and vsatp. -/
def satpMask (c : Config) : Word :=
  if c.rv64 then fieldMask 60 4 ||| fieldMask 44 c.asidLen ||| (ppnMask c &&& fieldMask 0 44)
  else fieldMask 31 1 ||| fieldMask 22 c.asidLen ||| (ppnMask c &&& fieldMask 0 22)

/-- The implemented bits of hgatp: PPN[1:0] read zero. -/
def hgatpMask (c : Config) : Word :=
  (if c.rv64 then fieldMask 60 4 ||| fieldMask 44 c.vmidLen ||| (ppnMask c &&& fieldMask 0 44)
    else fieldMask 31 1 ||| fieldMask 22 c.vmidLen ||| (ppnMask c &&& fieldMask 0 22)) &&& ~~~3

def satpRead (s : State) : Word := s.sv.satp &&& satpMask s.cfg

def vsatpRead (s : State) : Word := s.vs.vsatp &&& satpMask s.cfg

def hgatpRead (s : State) : Word := s.h.hgatp &&& hgatpMask s.cfg

/-- The ASID field of satp or vsatp. -/
def atpAsid (c : Config) (v : Word) : Nat := if c.rv64 then getField v 44 16 else getField v 22 9

/-- hgatp.VMID. -/
def vmidOf (s : State) : Nat := if s.cfg.rv64 then getField (hgatpRead s) 44 14 else getField (hgatpRead s) 22 7

/-- menvcfg.PBMTE (11_csr_machine R162). -/
def menvcfgPbmte (s : State) : Bool := s.cfg.extSvpbmt && s.cfg.hasU && s.m.menvcfg.getLsbD 62

/-- henvcfg.PBMTE: zero whenever menvcfg's is (13_csr_hypervisor R281). -/
def henvcfgPbmte (s : State) : Bool := menvcfgPbmte s && s.h.henvcfg.getLsbD 62

/-- One run of the walk of R448. -/
structure Walk where
  stage : Stage
  levels : Nat
  /-- The address that is translated: a virtual or, at the G stage, guest physical address. -/
  addr : Nat
  root : Nat
  /-- The access type the permission check uses (R484). -/
  acc : Acc
  /-- The privilege mode of the permission check is U. -/
  user : Bool
  sum : Bool
  mxr : Bool
  asid : Nat
  vmid : Nat
  /-- Svpbmt is in effect (R462). -/
  pbmt : Bool
  /-- Page-table accesses are big-endian (20_memory R337). -/
  big : Bool
  /-- The exceptions' `implicit` (R913). -/
  implicit : Option Bool
  deriving DecidableEq, Repr

/-- The width in bytes of a page-table entry: Sv32 has two levels, the RV64 schemes three or more. -/
def Walk.pteSize (w : Walk) : Nat := if w.levels = 2 then 4 else 8

/-- The width of a VPN field. -/
def Walk.vpnBits (w : Walk) : Nat := if w.levels = 2 then 10 else 9

/-- VPN[i]; the root table of the G stage is four times as large (R483). -/
def Walk.vpn (w : Walk) (i : Nat) : Nat :=
  w.addr / 2 ^ (12 + w.vpnBits * i) % 2 ^ (w.vpnBits + if w.stage = .g ∧ i + 1 = w.levels then 2 else 0)

/-- The page fault of a walk. -/
def Walk.fault (w : Walk) (r : Req) : Exc :=
  if w.stage = .g then r.exc (guestPageFault r.acc) w.addr w.implicit else r.exc (pageFault r.acc) 0 none

/-! ### Page-table entries (R441 to R449, R453, R460, R462) -/

def pteBit (pte : Word) (i : Nat) : Bool := pte.getLsbD i

/-- R = 1 or X = 1: a leaf (R448 step 4). -/
def pteLeaf (pte : Word) : Bool := pteBit pte 1 || pteBit pte 3

/-- The PPN of an entry. -/
def ptePpn (w : Walk) (pte : Word) : Nat := if w.pteSize = 4 then getField pte 10 22 else getField pte 10 44

/-- A valid NAPOT entry (R460). -/
def pteNapot (c : Config) (w : Walk) (i : Nat) (pte : Word) : Bool :=
  w.pteSize == 8 && c.extSvnapot && pteBit pte 63 && pteLeaf pte && i == 0 && getField pte 10 4 == 8

/-- Step 3 and the Svnapot check of step 2: V is set, R and W are not the reserved pair, and no reserved bit or encoding
is used at this level. -/
def pteValid (c : Config) (w : Walk) (i : Nat) (pte : Word) : Bool :=
  pteBit pte 0 && (pteBit pte 1 || !pteBit pte 2) &&
  (w.pteSize == 4 ||
    (getField pte 54 7 == 0 &&
      (getField pte 61 2 == 0 || (c.extSvpbmt && w.pbmt && pteLeaf pte && getField pte 61 2 != 3)) &&
      (!pteBit pte 63 || pteNapot c w i pte)))

/-- Step 5: the permission bits allow the access (R449). -/
def pteAllows (w : Walk) (pte : Word) : Bool :=
  let u := pteBit pte 4
  if w.user then u && permitted else if u && (w.acc == .exec || !w.sum) then false else permitted
where
  permitted : Bool :=
    match w.acc with
    | .exec => pteBit pte 3
    | .hlvx => pteBit pte 3
    | .load => pteBit pte 1 || (w.mxr && pteBit pte 3)
    | .store => pteBit pte 2

/-- Step 6: a superpage's PPN is aligned. -/
def pteAligned (w : Walk) (i : Nat) (pte : Word) : Bool := ptePpn w pte % 2 ^ (w.vpnBits * i) == 0

/-- Step 7: A is set and, for a store, D is. -/
def pteMarked (w : Walk) (pte : Word) : Bool := pteBit pte 6 && (w.acc != .store || pteBit pte 7)

/-- The entry with A and, for a store, D set. -/
def pteMark (w : Walk) (pte : Word) : Word := pte ||| bitMask 6 ||| maskIf (w.acc == .store) (bitMask 7)

/-- The page number a valid leaf gives: of a NAPOT entry the low four bits come from the address (R460). -/
def leafPpn (w : Walk) (pte : Word) : Nat :=
  if w.pteSize = 8 ∧ pteBit pte 63 then ptePpn w pte / 16 * 16 + w.vpn 0 % 16 else ptePpn w pte

/-- Step 8: the translated address. -/
def leafAddr (w : Walk) (i : Nat) (pte : Word) : Nat :=
  let low := w.vpnBits * i
  leafPpn w pte / 2 ^ low * 2 ^ low * 4096 + w.addr % 2 ^ (12 + low)

/-- A leaf's memory type, Table 6.1 (R462); `pteValid` has refused what Svpbmt does not allow. -/
def leafPbmt (w : Walk) (pte : Word) : Pbmt :=
  if w.pteSize = 4 then .pma
  else if getField pte 61 2 = 1 then .nc
  else if getField pte 61 2 = 2 then .io
  else .pma

/-- What the walk gives. -/
def leafMapping (w : Walk) (i : Nat) (pte : Word) : Mapping := { pa := leafAddr w i pte, pbmt := leafPbmt w pte }

/-- Whether the walk may set the bits that are missing: a speculative one sets no D, and A only where it may (R446, R473,
13_csr_hypervisor R321). -/
def mayMark (r : Req) (w : Walk) (pte : Word) : Bool :=
  !r.spec || ((w.acc != .store || pteBit pte 7) && (if w.stage = .vs then r.setAVs else r.setA))

/-! ### The translation cache (R470) -/

/-- The value may be a leaf: it is no valid pointer to a next level (an invalid entry may be cached too). -/
def pteMayBeLeaf (pte : Word) : Bool := pteLeaf pte || !pteBit pte 0 || pteBit pte 2

/-- A fence has named the walk's address since the entry was read: as a leaf at level `i` it serves this page no more, and
any other page it still may (R471). -/
def tcFenced (w : Walk) (i : Nat) (e : TcEntry) : Bool :=
  pteMayBeLeaf e.pte &&
    e.fenced.any fun a => a / 2 ^ (12 + w.vpnBits * i) == w.addr / 2 ^ (12 + w.vpnBits * i)

/-- The entry may satisfy the read of the entry at `q` at level `i`. -/
def tcServes (w : Walk) (q i : Nat) (e : TcEntry) : Bool :=
  e.stage == w.stage && e.pteAddr == q && (w.stage == .g || e.asid == w.asid || e.global) &&
  (w.stage == .single || e.vmid == w.vmid) && !tcFenced w i e

/-- The cached values that may satisfy that read. -/
def tcValues (s : State) (w : Walk) (q i : Nat) : List Word := (s.tc.filter (tcServes w q i)).map TcEntry.pte

/-- The size, as a power of two, and the number of the page that the walk's address lies in at level `i`. -/
def Walk.page (w : Walk) (i : Nat) : Nat × Nat := (12 + w.vpnBits * i, w.addr / 2 ^ (12 + w.vpnBits * i))

/-- The entry with the pages it has been used for added. -/
def TcEntry.withUses (e : TcEntry) (l : List (Nat × Nat)) : TcEntry :=
  { e with used := (l.filter fun p => !e.used.contains p) ++ e.used }

/-- The two entries hold the same, their uses apart. -/
def TcEntry.same (e f : TcEntry) : Bool := { e with used := [] } == { f with used := [] }

/-- The cache with one entry more, or with its uses added to an entry that holds the same. -/
def tcInsert (s : State) (e : TcEntry) : State :=
  { s with tc := if s.tc.any e.same then s.tc.map fun f => if e.same f then f.withUses e.used else f else e :: s.tc }

/-- The cached value `pte` satisfies the read: its entries have been used for the walk's page. -/
def tcUse (s : State) (w : Walk) (q i : Nat) (pte : Word) : State :=
  { s with tc := s.tc.map fun e => if tcServes w q i e && e.pte == pte then e.withUses [w.page i] else e }

/-- The entries that a read leaves in the cache: its own, used for the walk's page, and, of a NAPOT entry, those of the
whole region (R461). An entry is global if it, or one above it, has bit 5 set, whatever its V is: R441 calls the other bits
of an entry with V = 0 don't-cares, and R470 asks for G = 1 only (DESIGN CHOICE, safe: entry 9). -/
def tcAdd (s : State) (w : Walk) (q i : Nat) (g : Bool) (pte : Word) : State :=
  let entry (q : Nat) (used : List (Nat × Nat)) : TcEntry :=
    { stage := w.stage, asid := w.asid, vmid := w.vmid, pteAddr := q, pte := pte,
      global := w.stage != .g && (g || pteBit pte 5), used := used, fenced := [] }
  let s1 := tcInsert s (entry q [w.page i])
  if pteNapot s.cfg w i pte then
    (List.range 16).foldl (fun t j => tcInsert t (entry (q - 8 * (w.vpn 0 % 16) + 8 * j) [])) s1
  else s1

/-- Step 2: the entry at `q`, from memory or from the cache. Where they differ, memory's read would trap, or it would walk
the G stage too, a free value chooses. `mem` is the read of memory with its checks. -/
def pteFetch (s : State) (w : Walk) (q i : Nat) (g : Bool) (mem : State → Nat → Res Word) : Res Word :=
  let cached := tcValues s w q i
  let fromMem : Res Word := (mem s q).bind fun v s1 => .ok v (tcAdd s1 w q i g v)
  match cached with
  | [] => fromMem
  | v0 :: _ =>
    let k := Config.tcChoice s.draws % (cached.length + 1)
    let chosen : Res Word :=
      if k = 0 then (mem (drawn s) q).bind fun v s1 => .ok v (tcAdd s1 w q i g v)
      else .ok (cached.getD (k - 1) v0) (tcUse (drawn s) w q i (cached.getD (k - 1) v0))
    match mem s q with
    | .ok v _ => if w.stage != .vs && cached.all (· == v) then fromMem else chosen
    | _ => chosen

/-! ### Table accesses -/

/-- A page-table entry read at a physical address (R445, R454). Speculative reads touch memory only whose final attributes
make reads idempotent (20_memory R358, R465). -/
def pteRead (r : Req) (w : Walk) (s : State) (m : Mapping) : Res Word :=
  let n := w.pteSize
  if r.spec && !((attributes s.cfg m.pbmt m.pa n).any Region.idempotentReads) then
    .trap (r.exc (accessFault r.acc) 0 none) s
  else
    (checkPhys s r .ptRead .load .S m n n).bind fun _ s1 =>
      (physRead s1 m.pa n).bind fun bs s2 => .ok (ofBytes (orderBytes w.big bs)) s2

/-- The checks of step 7's store; a speculative walk writes only where writes are idempotent (20_memory R358). -/
def pteStorable (r : Req) (w : Walk) (s : State) (m : Mapping) : Res Unit :=
  let n := w.pteSize
  if r.spec && !((attributes s.cfg m.pbmt m.pa n).any Region.idempotentWrites) then
    .trap (r.exc (accessFault r.acc) 0 none) s
  else checkPhys s r .ptWrite .store .S m n n

/-- A page-table entry written with the bits that its use sets (R448 step 7). -/
def pteSet (w : Walk) (s : State) (m : Mapping) (pte : Word) : Res Unit :=
  physWrite s m.pa (orderBytes w.big (bytesOf w.pteSize (pteMark w pte)))

/-! ### The walk -/

/-- What steps 3 to 7 make of an entry. -/
inductive PteUse where
  /-- A page fault. -/
  | fault
  /-- A pointer to the next level. -/
  | table
  /-- A leaf that translates as it is. -/
  | leaf
  /-- A leaf whose A or D bit the hardware sets first. -/
  | mark
  deriving DecidableEq, Repr

/-- Steps 3 to 6 of R448, and step 7 but for its store. -/
def pteUse (c : Config) (r : Req) (w : Walk) (i : Nat) (pte : Word) : PteUse :=
  if !pteValid c w i pte then .fault
  else if !pteLeaf pte then (if i = 0 then .fault else .table)
  else if !pteAllows w pte || !pteAligned w i pte then .fault
  else if pteMarked w pte then .leaf
  else if !c.adUpdate || !mayMark r w pte then .fault
  else .mark

/-- How the walk goes on from an entry: `down` at the next level, with the table's address and whether an entry so far was
global; `mark` is step 7's store and what follows it. -/
def walkOn (s : State) (r : Req) (w : Walk) (i : Nat) (g : Bool) (pte : Word) (down : State → Nat → Bool → Res Mapping)
    (mark : Res Mapping) : Res Mapping :=
  match pteUse s.cfg r w i pte with
  | .fault => .trap (w.fault r) s
  | .table => down s (ptePpn w pte * 4096) (g || pteBit pte 5)
  | .leaf => .ok (leafMapping w i pte) s
  | .mark => mark

/-- `s` with what reads of tables have left since, `t`, but none of the stores. -/
def readsOf (s t : State) : State := { t with mem := s.mem, istale := s.istale, plat := s.plat }

/-- Step 7's compare and store of the entry at `m`, where its checks have passed: one atomic step. If the entry is no longer
the one used, the walk returns to step 2 with what it is now (entry 38), and nothing has been stored unless that one is
marked. `before` is the state before the store was located. A store that is made stays whatever the access comes to (DESIGN
CHOICE, unsafe: entry 49). -/
def pteUpdate (before s : State) (r : Req) (w : Walk) (q i : Nat) (g : Bool) (pte : Word) (m : Mapping)
    (down : State → Nat → Bool → Res Mapping) : Res Mapping :=
  (pteRead r w s m).bind fun now s1 =>
    if now = pte then (pteSet w s1 m pte).bind fun _ s2 => .ok (leafMapping w i pte) s2
    else
      let s2 := tcAdd s1 w q i g now
      walkOn (readsOf before s2) r w i g now down <|
        (pteSet w s2 m now).bind fun _ s3 => .ok (leafMapping w i now) s3

/-- Steps 2 to 8 of R448 at level `i`: `a` is the table's address, `g` whether an entry above was global. `loc` gives the
supervisor physical address of an entry, for a read or (true) for step 7, which uses one address for its checks, its
compare and its store. -/
def walkLevel (r : Req) (w : Walk) (loc : State → Nat → Bool → Res Mapping) (i : Nat)
    (down : State → Nat → Bool → Res Mapping) (s : State) (a : Nat) (g : Bool) : Res Mapping :=
  let q := a + w.vpn i * w.pteSize
  (pteFetch s w q i g fun t p => (loc t p false).bind fun m t1 => pteRead r w t1 m).bind fun pte s1 =>
    walkOn s1 r w i g pte down <|
      (loc s1 q true).bind fun m s2 =>
        (pteStorable r w s2 m).bind fun _ s3 => pteUpdate s1 s3 r w q i g pte m down

/-- The walk from level `i` down. -/
def walkFrom (r : Req) (w : Walk) (loc : State → Nat → Bool → Res Mapping) : Nat → State → Nat → Bool → Res Mapping
  | 0 => walkLevel r w loc 0 fun s _ _ => .trap (w.fault r) s
  | i + 1 => walkLevel r w loc (i + 1) (walkFrom r w loc i)

/-- The walk from the root (R448 step 1). -/
def walk (s : State) (r : Req) (w : Walk) (loc : State → Nat → Bool → Res Mapping) : Res Mapping :=
  walkFrom r w loc (w.levels - 1) s w.root false

/-- Entries of tables that lie at supervisor physical addresses. -/
def physLoc (s : State) (q : Nat) (_ : Bool) : Res Mapping := .ok (.plain q) s

/-! ### The G stage (R483, R484) -/

/-- The walk of hgatp's tables for a guest physical address. -/
def gWalk (s : State) (gpa : Nat) (acc : Acc) (implicit : Option Bool) : Walk where
  stage := .g
  levels := svLevels (atpMode s.cfg (hgatpRead s))
  addr := gpa
  root := atpPpn s.cfg (hgatpRead s) * 4096
  acc := acc
  user := true
  sum := false
  mxr := mstatusBit s MXR
  asid := 0
  vmid := vmidOf s
  pbmt := menvcfgPbmte s
  big := mstatusBit s SBE
  implicit := implicit

/-- GStage(gpa, type): `implicit` is none for the access itself, and says whether a table access writes otherwise. -/
def gStage (s : State) (r : Req) (gpa : Nat) (implicit : Option Bool) : Res Mapping :=
  let acc : Acc := match implicit with
    | none => r.acc
    | some true => .store
    | some false => .load
  let w := gWalk s gpa acc implicit
  if w.levels = 0 then .ok (.plain gpa) s
  else if 2 ^ (14 + w.vpnBits * w.levels) ≤ gpa then .trap (w.fault r) s
  else walk s r w physLoc

/-! ### The first stage (R430, R448, R450 to R452, R481, R482) -/

/-- Bits above the virtual address are copies of its top bit. -/
def canonical (w : Walk) : Bool :=
  w.pteSize == 4 ||
    (let top := w.addr / 2 ^ (11 + w.vpnBits * w.levels)
     top == 0 || top == 2 ^ (53 - w.vpnBits * w.levels) - 1)

/-- The walk of satp's tables. -/
def sWalk (s : State) (r : Req) : Walk where
  stage := .single
  levels := svLevels (atpMode s.cfg (satpRead s))
  addr := r.va.toNat
  root := atpPpn s.cfg (satpRead s) * 4096
  acc := r.acc
  user := r.priv == .U
  sum := mstatusBit s SUM
  mxr := mstatusBit s MXR
  asid := atpAsid s.cfg (satpRead s)
  vmid := 0
  pbmt := menvcfgPbmte s
  big := mstatusBit s SBE
  implicit := none

/-- The walk of vsatp's tables. -/
def vsWalk (s : State) (r : Req) : Walk where
  stage := .vs
  levels := svLevels (atpMode s.cfg (vsatpRead s))
  addr := r.va.toNat
  root := atpPpn s.cfg (vsatpRead s) * 4096
  acc := r.acc
  user := r.priv == .U
  sum := vsstatusBit s SUM
  mxr := vsstatusBit s MXR || mstatusBit s MXR
  asid := atpAsid s.cfg (vsatpRead s)
  vmid := vmidOf s
  pbmt := henvcfgPbmte s
  big := hstatusBit s VSBE
  implicit := none

/-- A VS-level entry's address is guest physical (R482): the G stage translates it, for a read or for a store. -/
def guestLoc (r : Req) (s : State) (q : Nat) (store : Bool) : Res Mapping := gStage s r q (some store)

/-- Single-stage translation under satp. -/
def translateS (s : State) (r : Req) : Res Mapping :=
  let w := sWalk s r
  if w.levels = 0 || !s.cfg.hasS then .ok (.plain r.va.toNat) s
  else if !canonical w then .trap (w.fault r) s
  else walk s r w physLoc

/-- The first of two stages, under vsatp: the guest physical address. -/
def translateVS (s : State) (r : Req) : Res Mapping :=
  let w := vsWalk s r
  if w.levels = 0 then .ok (.plain r.va.toNat) s
  else if !canonical w then .trap (w.fault r) s
  else walk s r w (guestLoc r)

/-- Two-stage translation under vsatp and hgatp (R480). -/
def translateV (s : State) (r : Req) : Res Mapping :=
  (translateVS s r).bind fun m s1 =>
    (gStage s1 r m.pa none).bind fun g s2 => .ok { g with pbmt := pbmtOver g.pbmt m.pbmt } s2

/-- Translate(va, type, P, Vm) (R430). -/
def translate (s : State) (r : Req) : Res Mapping :=
  if r.priv = .M then .ok (.plain r.va.toNat) s
  else if r.virt then translateV s r
  else translateS s r

/-! ### Speculative walks (R473, 13_csr_hypervisor R321) -/

/-- The mode loads and stores use: MPRV moves it in M-mode (20_memory R342, 13_csr_hypervisor R307). -/
def dataMode (s : State) : Priv × Bool :=
  if s.priv = .M ∧ mstatusBit s MPRV then (mpp s, mpp s != .M && mstatusBit s MPV) else (s.priv, s.virt)

/-- The root register of a speculative walk is active: satp in S-mode and U-mode, by the mode of loads and stores
(12_csr_supervisor R227), and not with V = 1, when vsatp replaces it (13_csr_hypervisor R311); vsatp as R321 says; hgatp when
vsatp is (DESIGN CHOICE, safe: entry 43). -/
def specActive (s : State) (stage : Stage) : Bool :=
  match stage with
  | .single => s.cfg.hasS && (dataMode s).1 != .M && !(dataMode s).2
  | .vs => guestActive
  | .g => guestActive
where
  guestActive : Bool := s.cfg.hasH && ((dataMode s).1 != .U || (dataMode s).2 || hstatusBit s HU)

/-- The request of a speculative walk. -/
def specReq (s : State) (k : SpecWalk) : Req where
  acc := if k.fetch then .exec else .load
  priv := if k.user then .U else .S
  virt := k.stage != .single
  va := wrap s.cfg k.addr
  ea := wrap s.cfg k.addr
  spec := true
  setA := k.setA
  setAVs := k.setAVs && (s.virt || (dataMode s).2)

/-- The translation a speculative walk executes: of a virtual address, or of any guest physical address by hgatp's tables, so
that every entry reachable from a root may enter the cache (R473). -/
def specTranslate (s : State) (k : SpecWalk) : Res Mapping :=
  if k.stage = .g then gStage s (specReq s k) k.addr.toNat none else translate s (specReq s k)

/-- The state after a speculative walk: the cache may gain entries, and A bits may be set; no exception is taken. VS-stage A
bits are set in VS-mode and VU-mode only (R321); G-stage ones in any mode (R446; DESIGN CHOICE, safe: entry 43). -/
def specWalk (s : State) (k : SpecWalk) : State :=
  if specActive s k.stage then
    match specTranslate s k with
    | .ok _ s1 => s1
    | .trap _ s1 => s1
  else s

end Sys2Proof.Machine
end

