-- ==== Sys2Proof/Machine/Access.lean ====
section
/-! DEFINITION. One memory access step by step: effective privilege, alignment, translation, PMA, PMP, byte order
(20_memory R336 to R349, R385; 45_a R702 to R716). -/

namespace Sys2Proof.Machine

/-- Who makes an explicit access: an ordinary instruction, or HLV, HLVX or HSV (R342, 48_hypervisor R782). -/
inductive Via where
  | plain
  | guest
  deriving DecidableEq, Repr

/-- The effective privilege and virtualization mode of an explicit access (R342). -/
def effMode (s : State) : Via → Priv × Bool
  | .plain => dataMode s
  | .guest => (if hstatusBit s SPVP then .S else .U, true)

/-- The access is big-endian (R337). -/
def dataBig (s : State) (p : Priv) (virt : Bool) : Bool :=
  match p, virt with
  | .M, _ => mstatusBit s MBE
  | .S, false => mstatusBit s SBE
  | .U, false => mstatusBit s UBE
  | .S, true => hstatusBit s VSBE
  | .U, true => vsstatusBit s UBE

/-- The access type of a use (R340). -/
def useAcc : PmaUse → Acc
  | .exec => .exec
  | .load => .load
  | .hlvx => .hlvx
  | .lr => .load
  | .ptRead => .load
  | .store => .store
  | .sc => .store
  | .amo _ => .store
  | .ptWrite => .store

/-- LR, SC and AMOs are never made in parts (R345). -/
def useAtomic : PmaUse → Bool
  | .lr => true
  | .sc => true
  | .amo _ => true
  | _ => false

/-- Load or store/AMO address-misaligned (60_exceptions R827). -/
def misalignedFault : Acc → Nat
  | .store => 6
  | _ => 4

/-- The exception a misaligned access raises, if any (R344, R345). -/
def misalignedCause (c : Config) (u : PmaUse) (ea : Word) (n : Nat) : Option Nat :=
  if ea.toNat % n = 0 then none
  else
    match c.misaligned with
    | .addressMisaligned => some (misalignedFault (useAcc u))
    | .accessFault => some (accessFault (useAcc u))
    | .supported => if useAtomic u then some (accessFault (useAcc u)) else none

/-- The parts of an access of n bytes: two if it crosses a page, each translated and checked for itself (R346). -/
def parts (c : Config) (ea : Word) (n : Nat) : List (Word × Nat) :=
  let k := 4096 - ea.toNat % 4096
  if k < n then [(ea, k), (wrap c (ea + BitVec.ofNat 64 k), n - k)] else [(ea, n)]

/-- The request of one part. -/
def dataReq (s : State) (via : Via) (u : PmaUse) (ea va : Word) : Req :=
  let m := effMode s via
  { acc := useAcc u, priv := m.1, virt := m.2, va := va, ea := ea, spec := false, setA := true, setAVs := true }

/-- Steps 3 to 5 of R340 for each part: the physical addresses and lengths. The parts are made in the order of their
addresses, each through all its steps, so of faults in two parts the first part's is raised, whatever their ranks in Table 3.7
(60_exceptions R840; DESIGN CHOICE, unsafe: entry 48); A and D bits set for a part stay if a later step or part faults (entry
49). -/
def resolve (s : State) (via : Via) (u : PmaUse) (ea : Word) (n : Nat) : List (Word × Nat) → Res (List (Nat × Nat))
  | [] => .ok [] s
  | (va, len) :: rest =>
    let r := dataReq s via u ea va
    (translate s r).bind fun m s1 =>
      (checkPhys s1 r u r.acc r.priv m len n).bind fun _ s2 =>
        (resolve s2 via u ea n rest).bind fun l s3 => .ok ((m.pa, len) :: l) s3

/-- Steps 1 to 5 of R340. The access fault that stands in for a misalignment (`misalignedCause`) has no row of its own in
Table 3.7 (60_exceptions R840); it ranks as address-misaligned does, where `misalignedFirst` puts that (DESIGN CHOICE,
unsafe: entry 42). -/
def access (s : State) (via : Via) (u : PmaUse) (ea : Word) (n : Nat) : Res (List (Nat × Nat)) :=
  match misalignedCause s.cfg u ea n with
  | none => resolve s via u ea n (parts s.cfg ea n)
  | some cause =>
    let e := (dataReq s via u ea ea).exc cause 0 none
    if s.cfg.misalignedFirst then .trap e s
    else (resolve s via u ea n (parts s.cfg ea n)).bind fun _ s1 => .trap e s1

/-- The bytes of all parts, lowest address first. -/
def readParts (s : State) : List (Nat × Nat) → Res (List Byte)
  | [] => .ok [] s
  | (pa, len) :: rest =>
    (physRead s pa len).bind fun bs s1 => (readParts s1 rest).bind fun more s2 => .ok (bs ++ more) s2

/-- The bytes written to all parts. -/
def writeParts (s : State) : List (Nat × Nat) → List Byte → Res Unit
  | [], _ => .ok () s
  | (pa, len) :: rest, bs =>
    (physWrite s pa (bs.take len)).bind fun _ s1 => writeParts s1 rest (bs.drop len)

/-- The byte order of an access. -/
def viaBig (s : State) (via : Via) : Bool := dataBig s (effMode s via).1 (effMode s via).2

/-- MemRead(ea, n): n bytes, zero-extended (R340). -/
def memRead (s : State) (via : Via) (u : PmaUse) (ea : Word) (n : Nat) : Res Word :=
  (access s via u ea n).bind fun pas s1 =>
    (readParts s1 pas).bind fun bs s2 => .ok (ofBytes (orderBytes (viaBig s via) bs)) s2

/-- MemWrite(ea, n, v) (R340). -/
def memWrite (s : State) (via : Via) (ea : Word) (n : Nat) (v : Word) : Res Unit :=
  (access s via .store ea n).bind fun pas s1 => writeParts s1 pas (orderBytes (viaBig s via) (bytesOf n v))

/-- The first physical address. -/
def firstPa (pas : List (Nat × Nat)) : Nat := (pas.head?.map Prod.fst).getD 0

/-- The reservation held. -/
def setResv (s : State) (v : Option Reservation) : State := { s with resv := v }

/-- LR: the value read, and the reservation of the block that holds it (45_a R702, R703). -/
def loadReserved (s : State) (ea : Word) (n : Nat) : Res Word :=
  (access s .plain .lr ea n).bind fun pas s1 =>
    (readParts s1 pas).bind fun bs s2 =>
      let pa := firstPa pas
      .ok (ofBytes (orderBytes (viaBig s .plain) bs))
        (setResv s2 (some { block := pa / 2 ^ s.cfg.rsetLog2, addr := pa, ea := ea, size := n }))

/-- The reservation covers the n bytes at an address (45_a R705). -/
def reserved (s : State) (pa n : Nat) : Bool :=
  match s.resv with
  | none => false
  | some v => v.block == pa / 2 ^ s.cfg.rsetLog2 && v.block == (pa + n - 1) / 2 ^ s.cfg.rsetLog2

/-- Whether an SC with a valid reservation fails all the same (45_a R712). -/
def spurious (s : State) : Bool × State :=
  if s.cfg.scMayFail then (Config.scFails s.draws, drawn s) else (false, s)

/-- SC: 0 if it succeeded, 1 if it failed; the reservation is gone either way (45_a R705, R706, R712). -/
def storeConditional (s : State) (ea : Word) (n : Nat) (v : Word) : Res Word :=
  (access s .plain .sc ea n).bind fun pas s1 =>
    if reserved s1 (firstPa pas) n then
      match spurious s1 with
      | (true, s2) => .ok 1 (setResv s2 none)
      | (false, s2) =>
        (writeParts s2 pas (orderBytes (viaBig s .plain) (bytesOf n v))).bind fun _ s3 => .ok 0 (setResv s3 none)
    else .ok 1 (setResv s1 none)

/-- AMO(n, op): the value read (45_a R716). -/
def amo (s : State) (op : AmoOp) (ea : Word) (n : Nat) (src : Word) : Res Word :=
  (access s .plain (.amo op) ea n).bind fun pas s1 =>
    (readParts s1 pas).bind fun bs s2 =>
      let old := ofBytes (orderBytes (viaBig s .plain) bs)
      (writeParts s2 pas (orderBytes (viaBig s .plain) (bytesOf n (amoResult op n old src)))).bind fun _ s3 => .ok old s3

/-! ### Instruction fetch (R341, R385) -/

/-- The word fetched at a physical address: what it holds now or, where a free value says so, what it held since the
last FENCE.I. -/
def fetchWord (s : State) (pa : Nat) : Inst × State :=
  let now := Memory.inst s.mem pa
  let old := (s.istale.filter fun e => e.1 == pa && e.2 != now).map Prod.snd
  match old with
  | [] => (now, s)
  | w :: _ =>
    let k := Config.fetchChoice s.draws % (old.length + 1)
    (if k = 0 then now else old.getD (k - 1) w, drawn s)

/-- Fetch(pc): the instruction word at pc (R341). -/
def fetch (s : State) : Res Inst :=
  let r : Req :=
    { acc := .exec, priv := s.priv, virt := s.virt, va := s.pc, ea := s.pc, spec := false, setA := true, setAVs := true }
  (translate s r).bind fun m s1 =>
    (checkPhys s1 r .exec .exec s.priv m 4 4).bind fun _ s2 =>
      if isIo s2.cfg m.pa 4 then
        (physRead s2 m.pa 4).bind fun bs s3 => .ok ((ofBytes bs).setWidth 32) s3
      else
        let (w, s3) := fetchWord s2 m.pa
        .ok w s3

end Sys2Proof.Machine
end

