-- ==== Sys2Proof/Machine/Ops.lean ====
section
/-! DEFINITION. The shared operations of the instructions: retiring, taking an exception, an interrupt or an NMI, the
returns from them, and the frame in which every instruction runs (60_exceptions R855 to R870, 61_hypervisor_traps R905 to
R914, 46_privileged R742 to R746). -/

namespace Sys2Proof.Machine

/-- What one instruction or one step answers. -/
abbrev Out := Host.Outcome State Fault Refusal

/-! ### Retirement (11_csr_machine R142, R146; 10_state R58) -/

/-- The writable bits of mcountinhibit. -/
def countinhibitMask (c : Config) : BitVec 32 := if c.hasMcountinhibit then 5 ||| (c.hpmMask &&& 0xFFFFFFF8) else 0

/-- Counter n is inhibited. -/
def inhibited (s : State) (n : Nat) : Bool := (s.m.mcountinhibit &&& countinhibitMask s.cfg).getLsbD n

/-- The instruction retires: minstret counts it. -/
def retireCount (s : State) : State :=
  if inhibited s 2 then s else { s with m := { s.m with minstret := s.m.minstret + 1 } }

/-- The instruction retires and control goes to `t`. -/
def retireTo (s : State) (t : Word) : State := retireCount (setPc s t)

/-- The instruction retires and control goes to the next one. -/
def retire (s : State) : State := retireTo s (nextPc s)

/-! ### Taking a trap (R860) -/

/-- The mode a trap is taken into. -/
inductive Dest where
  | M
  | S
  | VS
  deriving DecidableEq, Repr

/-- ExcDest(code). -/
def excDest (s : State) (code : Nat) : Dest :=
  if s.priv = .M || !s.cfg.hasS || !(medelegRead s).getLsbD code then .M
  else if s.cfg.hasH && s.virt && (hedelegRead s).getLsbD code then .VS
  else .S

/-- The value of xcause. -/
def causeWord (c : Config) (interrupt : Bool) (code : Nat) : Word :=
  BitVec.ofNat 64 code ||| maskIf interrupt (bitMask (c.xlen - 1))

/-- Vector(tvec, interrupt, code). -/
def vector (c : Config) (tvec : Word) (interrupt : Bool) (code : Nat) : Word :=
  let base := tvec &&& ~~~3
  if tvec.extractLsb' 0 2 = 1 ∧ interrupt then wrap c (base + BitVec.ofNat 64 (4 * code)) else wrap c base

/-- The mode and V. -/
def setMode (s : State) (p : Priv) (v : Bool) : State := { s with priv := p, virt := v }

/-- What a trap into M-mode saves of itself. -/
def saveM (s : State) (cause tval : Word) : State :=
  { s with m := { s.m with mepc := s.pc, mcause := cause, mtval := tval } }

/-- What it saves besides with the hypervisor extension. -/
def saveM2 (s : State) (tval2 tinst : Word) : State :=
  { s with m := { s.m with mtval2 := tval2, mtinst := tinst } }

/-- The part of a trap into M-mode that every entry makes: all but the new pc. -/
def enterM (s : State) (cause tval tval2 tinst : Word) (gva : Bool) : State :=
  let s1 := setMpp (setMstatus (setMstatus (saveM s cause tval) MPIE (mstatusBit s MIE)) MIE false) s.priv
  setMode (if s.cfg.hasH then saveM2 (setMstatus (setMstatus s1 MPV s.virt) GVA gva) tval2 tinst else s1) .M false

/-- What a trap into S-mode saves of itself. -/
def saveS (s : State) (cause tval : Word) : State :=
  { s with sv := { s.sv with sepc := s.pc, scause := cause, stval := tval } }

/-- What it saves besides with the hypervisor extension. -/
def saveS2 (s : State) (tval2 tinst : Word) : State := { s with h := { s.h with htval := tval2, htinst := tinst } }

/-- The part of a trap into S-mode (HS-mode) but for the new pc. -/
def enterS (s : State) (cause tval tval2 tinst : Word) (gva : Bool) : State :=
  let s1 := setMstatus (setMstatus (setMstatus (saveS s cause tval) SPIE (mstatusBit s SIE)) SIE false) SPP (s.priv == .S)
  let s2 := setHstatus (setHstatus s1 SPV s.virt) HGVA gva
  let s3 := if s.virt then setHstatus s2 SPVP (s.priv == .S) else s2
  setMode (if s.cfg.hasH then saveS2 s3 tval2 tinst else s1) .S false

/-- What a trap into VS-mode saves of itself. -/
def saveVS (s : State) (cause tval : Word) : State :=
  { s with vs := { s.vs with vsepc := s.pc, vscause := cause, vstval := tval } }

/-- The part of a trap into VS-mode but for the new pc; V stays 1. -/
def enterVS (s : State) (cause tval : Word) : State :=
  setMode
    (setVsstatus (setVsstatus (setVsstatus (saveVS s cause tval) SPIE (vsstatusBit s SIE)) SIE false) SPP (s.priv == .S))
    .S s.virt

/-- Trap(interrupt, code, dest, tval, tval2, tinst, gva): the one entry for exceptions and interrupts. -/
def takeTrap (s : State) (interrupt : Bool) (code : Nat) (dest : Dest) (tval tval2 tinst : Word) (gva : Bool) : State :=
  match dest with
  | .M =>
    setPc (enterM s (causeWord s.cfg interrupt code) tval tval2 tinst gva) (vector s.cfg s.m.mtvec interrupt code)
  | .S =>
    setPc (enterS s (causeWord s.cfg interrupt code) tval tval2 tinst gva) (vector s.cfg s.sv.stvec interrupt code)
  | .VS =>
    let code' := if interrupt then code - 1 else code
    setPc (enterVS s (causeWord s.cfg interrupt code') tval) (vector s.cfg s.vs.vstvec interrupt code')

/-- The transformation of a memory instruction (61_hypervisor_traps R911). -/
def transform (inst : Inst) (off : Nat) : Inst :=
  let addr : Inst := BitVec.ofNat 32 (off % 32) <<< 15
  let keep : Inst :=
    match inst.extractLsb' 0 7 with
    | 0b0000011#7 => 0x00007FFF
    | 0b0100011#7 => 0x01F0707F
    | _ => 0xFFF07FFF
  (inst &&& keep) ||| addr

/-- The exceptions of explicit memory accesses (R910, R914). -/
def memoryCause (code : Nat) : Bool := [4, 5, 6, 7, 13, 15, 21, 23].contains code

/-- The guest-page faults (R905). -/
def guestCause (code : Nat) : Bool := [20, 21, 23].contains code

/-- The exceptions whose trap value is an address (R907). -/
def addressCause (code : Nat) : Bool := !(List.contains [2, 8, 9, 10, 11, 22] code)

/-- A guest-page fault of a VS-level table access (R913): whether it was a write. -/
def implicitOf (e : Exc) : Option Bool := if guestCause e.cause then e.implicit else none

/-- tinst(code, instr, implicit) (R913, R914). -/
def tinstOf (c : Config) (inst : Inst) (e : Exc) : Word :=
  match implicitOf e with
  | some write =>
    if c.tinstPseudo then (if c.rv64 then 0x3000 else 0x2000) ||| maskIf write 0x20 else 0
  | none => if memoryCause e.cause && c.tinstTransform then (transform inst e.off).setWidth 64 else 0

/-- tval2(code, gpa): zero where a required pseudoinstruction would not be written (R905, R913). -/
def tval2Of (c : Config) (e : Exc) : Word :=
  if !guestCause e.cause || ((implicitOf e).isSome && !c.tinstPseudo) then 0
  else wrap c (BitVec.ofNat 64 (e.gpa / 4))

/-- The value written to xtval (R862). -/
def tvalOf (c : Config) (e : Exc) : Word := if c.informative e.cause then wrap c e.tval else 0

/-- gva(code, access): a guest virtual address is written (R907). -/
def gvaOf (c : Config) (e : Exc) : Bool := e.gva && addressCause e.cause && c.informative e.cause

/-- A synchronous exception is taken: pc is the instruction's, and nothing of it has happened. -/
def raise (s : State) (inst : Inst) (e : Exc) : State :=
  takeTrap s false e.cause (excDest s e.cause) (tvalOf s.cfg e) (tval2Of s.cfg e) (tinstOf s.cfg inst e) (gvaOf s.cfg e)

/-- An exception of the instruction itself, with its trap value (R862, R917). -/
def instrExc (cause : Nat) (tval : Word) (gva : Bool) : Exc :=
  { cause := cause, tval := tval, gva := gva, gpa := 0, implicit := none, off := 0 }

/-- Illegal instruction (R823). -/
def illegalExc (inst : Inst) : Exc := instrExc 2 (inst.setWidth 64) false

/-- Virtual instruction (61_hypervisor_traps R902). -/
def virtualExc (inst : Inst) : Exc := instrExc 22 (inst.setWidth 64) false

/-! ### Interrupts and NMI (R854, R855, R870) -/

/-- Interrupt i is takeable to a mode (R854). The pending bit comes last. -/
def takeable (s : State) (d : Dest) (i : Nat) : Bool :=
  (mieRead s).getLsbD i &&
  (match d with
    | .M => !(s.cfg.hasS && (midelegRead s).getLsbD i) && (s.priv != .M || mstatusBit s MIE)
    | .S =>
      s.cfg.hasS && (midelegRead s).getLsbD i && !(s.cfg.hasH && (hidelegRead s).getLsbD i) && s.priv != .M &&
        (s.priv == .U || s.virt || mstatusBit s SIE)
    | .VS =>
      s.cfg.hasH && (midelegRead s).getLsbD i && (hidelegRead s).getLsbD i && s.virt && s.priv != .M &&
        (s.priv == .U || vsstatusBit s SIE)) &&
  mipBit s i

/-- The interrupts a mode can receive, in decreasing priority (R855). -/
def intOrder : Dest → List Nat
  | .M => [11, 3, 7, 9, 1, 5]
  | .S => [9, 1, 5, 12, 10, 2, 6]
  | .VS => [10, 2, 6]

/-- The interrupt to take at this boundary, and its destination. -/
def pendingInterrupt (s : State) : Option (Nat × Dest) :=
  match (intOrder .M).find? (takeable s .M) with
  | some i => some (i, .M)
  | none =>
    match (intOrder .S).find? (takeable s .S) with
    | some i => some (i, .S)
    | none =>
      match (intOrder .VS).find? (takeable s .VS) with
      | some i => some (i, .VS)
      | none => none

/-- The hart no longer waits. -/
def unstall (s : State) : State := { s with stalled := false }

/-- The interrupt is taken; a stalled hart resumes with it (46_privileged R748). -/
def takeInterrupt (s : State) (i : Nat) (d : Dest) : State := unstall (takeTrap s true i d 0 0 0 false)

/-- NMIStep (R870): the cause is the platform's, 0 for "unknown". -/
def takeNmi (s : State) : State :=
  unstall (setPc (enterM s (causeWord s.cfg true s.cfg.nmiCause) 0 0 0 false) s.cfg.nmiVector)

/-! ### Trap return (46_privileged R744 to R746) -/

/-- xRET may end the reservation (R746). -/
def returnReservation (s : State) : State := if s.cfg.xretClears then setResv s none else s

/-- MRET's effect. -/
def returnM (s : State) : State :=
  let y := mpp s
  let v := s.cfg.hasH && y != .M && mstatusBit s MPV
  let s1 := setMpp (setMstatus (setMstatus s MIE (mstatusBit s MPIE)) MPIE true) (leastPriv s.cfg)
  let s2 := if s.cfg.hasH then setMstatus s1 MPV false else s1
  let s3 := if y = .M then s2 else setMstatus s2 MPRV false
  retireTo (returnReservation (setMode s3 y v)) (s.m.mepc &&& ~~~3)

/-- SRET's effect with V = 0. -/
def returnS (s : State) : State :=
  let y : Priv := if mstatusBit s SPP then .S else .U
  let v := s.cfg.hasH && hstatusBit s SPV
  let s1 := setMstatus (setMstatus (setMstatus s SIE (mstatusBit s SPIE)) SPIE true) SPP false
  let s2 := if s.cfg.hasH then setHstatus s1 SPV false else s1
  retireTo (returnReservation (setMode (setMstatus s2 MPRV false) y v)) (s.sv.sepc &&& ~~~3)

/-- SRET's effect with V = 1. -/
def returnVS (s : State) : State :=
  let y : Priv := if vsstatusBit s SPP then .S else .U
  let s1 := setVsstatus (setVsstatus (setVsstatus s SIE (vsstatusBit s SPIE)) SPIE true) SPP false
  retireTo (returnReservation (setMode s1 y s.virt)) (s.vs.vsepc &&& ~~~3)

/-! ### Running one instruction (40_rv32i R550, 60_exceptions R841) -/

/-- What an operation's outcome is as the instruction's: an exception is taken. -/
def conclude (inst : Inst) : Res Unit → Out
  | .ok _ t => .next t
  | .trap e t => .next (raise t inst e)

/-- An instruction of this hart's extensions, XLEN and registers runs its body; any other is illegal (R823). -/
def run (i : Instr) (s : State) (body : State → Res Unit) : Out :=
  if i.available s.cfg then conclude (encode i) (body s) else .next (raise s (encode i) (illegalExc (encode i)))

/-- x[rd] <- v, and the instruction retires. -/
def writeBack (s : State) (rd : Reg) (v : Word) : Res Unit := .ok () (retire (wX s rd v))

/-- The instruction raises illegal or virtual instruction. -/
def illegal (i : Instr) (s : State) : Res Unit := .trap (illegalExc (encode i)) s

def virtualInstr (i : Instr) (s : State) : Res Unit := .trap (virtualExc (encode i)) s

/-- A jump to `t`: the link value goes to rd, unless the target is misaligned (40_rv32i R576, R577, R580). -/
def jump (s : State) (rd : Reg) (t : Word) : Res Unit :=
  if t.extractLsb' 0 2 = 0 then .ok () (retireTo (wX s rd (nextPc s)) t) else .trap (instrExc 0 t s.virt) s

/-- branch(cond) (R578). -/
def branch (s : State) (cond : Bool) (imm : BitVec 12) : Res Unit :=
  if cond then
    let t := wrap s.cfg (s.pc + branchOffset imm)
    if t.extractLsb' 0 2 = 0 then .ok () (retireTo s t) else .trap (instrExc 0 t s.virt) s
  else .ok () (retire s)

/-! ### Memory instructions (40_rv32i R590, 45_a R703 to R716, 48_hypervisor R783) -/

/-- x[rd] <- the n bytes at ea, extended to XLEN. -/
def loadTo (s : State) (via : Via) (u : PmaUse) (rd : Reg) (ea : Word) (n : Nat) (signed : Bool) : Res Unit :=
  (memRead s via u ea n).bind fun v s1 => writeBack s1 rd (if signed then sextBytes n v else v)

/-- The low n bytes of v are stored at ea. An HSV too leaves the hart's own reservation: R708 says so of every store of the hart,
and R801 (e), "any hart", refers to it (DEDUCED, unsafe: entry 41). -/
def storeFrom (s : State) (via : Via) (ea : Word) (n : Nat) (v : Word) : Res Unit :=
  (memWrite s via ea n v).bind fun _ s1 => .ok () (retire s1)

/-- LR: the value is sign-extended. -/
def lrTo (s : State) (rd : Reg) (ea : Word) (n : Nat) : Res Unit :=
  (loadReserved s ea n).bind fun v s1 => writeBack s1 rd (sextBytes n v)

/-- SC: rd receives the code. -/
def scTo (s : State) (rd : Reg) (ea : Word) (n : Nat) (v : Word) : Res Unit :=
  (storeConditional s ea n v).bind fun code s1 => writeBack s1 rd code

/-- An AMO: rd receives the old value, sign-extended. -/
def amoTo (s : State) (rd : Reg) (op : AmoOp) (ea : Word) (n : Nat) (src : Word) : Res Unit :=
  (amo s op ea n src).bind fun old s1 => writeBack s1 rd (sextBytes n old)

end Sys2Proof.Machine
end

