-- ==== Sys2Proof/Machine/Atomic.lean ====
section
/-! DEFINITION. Load-reserved, store-conditional and AMOs (45_a). One hart cannot observe aq and rl (R709; entry 12). -/

namespace Sys2Proof.Machine

/-- LR.W (45_a R703). -/
def execLrW (aq rl : Bool) (rd rs1 : Reg) (s : State) : Out :=
  run (.lrW aq rl rd rs1) s fun s => lrTo s rd (rX s rs1) 4

/-- SC.W (45_a R705). -/
def execScW (aq rl : Bool) (rd rs1 rs2 : Reg) (s : State) : Out :=
  run (.scW aq rl rd rs1 rs2) s fun s => scTo s rd (rX s rs1) 4 (rX s rs2)

/-- AMOSWAP.W (45_a R717). -/
def execAmoswapW (aq rl : Bool) (rd rs1 rs2 : Reg) (s : State) : Out :=
  run (.amoswapW aq rl rd rs1 rs2) s fun s => amoTo s rd .swap (rX s rs1) 4 (rX s rs2)

/-- AMOADD.W (45_a R718). -/
def execAmoaddW (aq rl : Bool) (rd rs1 rs2 : Reg) (s : State) : Out :=
  run (.amoaddW aq rl rd rs1 rs2) s fun s => amoTo s rd .add (rX s rs1) 4 (rX s rs2)

/-- AMOXOR.W (45_a R719). -/
def execAmoxorW (aq rl : Bool) (rd rs1 rs2 : Reg) (s : State) : Out :=
  run (.amoxorW aq rl rd rs1 rs2) s fun s => amoTo s rd .xor (rX s rs1) 4 (rX s rs2)

/-- AMOAND.W (45_a R720). -/
def execAmoandW (aq rl : Bool) (rd rs1 rs2 : Reg) (s : State) : Out :=
  run (.amoandW aq rl rd rs1 rs2) s fun s => amoTo s rd .and (rX s rs1) 4 (rX s rs2)

/-- AMOOR.W (45_a R721). -/
def execAmoorW (aq rl : Bool) (rd rs1 rs2 : Reg) (s : State) : Out :=
  run (.amoorW aq rl rd rs1 rs2) s fun s => amoTo s rd .or (rX s rs1) 4 (rX s rs2)

/-- AMOMIN.W (45_a R722). -/
def execAmominW (aq rl : Bool) (rd rs1 rs2 : Reg) (s : State) : Out :=
  run (.amominW aq rl rd rs1 rs2) s fun s => amoTo s rd .min (rX s rs1) 4 (rX s rs2)

/-- AMOMAX.W (45_a R723). -/
def execAmomaxW (aq rl : Bool) (rd rs1 rs2 : Reg) (s : State) : Out :=
  run (.amomaxW aq rl rd rs1 rs2) s fun s => amoTo s rd .max (rX s rs1) 4 (rX s rs2)

/-- AMOMINU.W (45_a R724). -/
def execAmominuW (aq rl : Bool) (rd rs1 rs2 : Reg) (s : State) : Out :=
  run (.amominuW aq rl rd rs1 rs2) s fun s => amoTo s rd .minu (rX s rs1) 4 (rX s rs2)

/-- AMOMAXU.W (45_a R725). -/
def execAmomaxuW (aq rl : Bool) (rd rs1 rs2 : Reg) (s : State) : Out :=
  run (.amomaxuW aq rl rd rs1 rs2) s fun s => amoTo s rd .maxu (rX s rs1) 4 (rX s rs2)

/-- LR.D (45_a R704). -/
def execLrD (aq rl : Bool) (rd rs1 : Reg) (s : State) : Out :=
  run (.lrD aq rl rd rs1) s fun s => lrTo s rd (rX s rs1) 8

/-- SC.D (45_a R707). -/
def execScD (aq rl : Bool) (rd rs1 rs2 : Reg) (s : State) : Out :=
  run (.scD aq rl rd rs1 rs2) s fun s => scTo s rd (rX s rs1) 8 (rX s rs2)

/-- AMOSWAP.D (45_a R726). -/
def execAmoswapD (aq rl : Bool) (rd rs1 rs2 : Reg) (s : State) : Out :=
  run (.amoswapD aq rl rd rs1 rs2) s fun s => amoTo s rd .swap (rX s rs1) 8 (rX s rs2)

/-- AMOADD.D (45_a R727). -/
def execAmoaddD (aq rl : Bool) (rd rs1 rs2 : Reg) (s : State) : Out :=
  run (.amoaddD aq rl rd rs1 rs2) s fun s => amoTo s rd .add (rX s rs1) 8 (rX s rs2)

/-- AMOXOR.D (45_a R728). -/
def execAmoxorD (aq rl : Bool) (rd rs1 rs2 : Reg) (s : State) : Out :=
  run (.amoxorD aq rl rd rs1 rs2) s fun s => amoTo s rd .xor (rX s rs1) 8 (rX s rs2)

/-- AMOAND.D (45_a R729). -/
def execAmoandD (aq rl : Bool) (rd rs1 rs2 : Reg) (s : State) : Out :=
  run (.amoandD aq rl rd rs1 rs2) s fun s => amoTo s rd .and (rX s rs1) 8 (rX s rs2)

/-- AMOOR.D (45_a R730). -/
def execAmoorD (aq rl : Bool) (rd rs1 rs2 : Reg) (s : State) : Out :=
  run (.amoorD aq rl rd rs1 rs2) s fun s => amoTo s rd .or (rX s rs1) 8 (rX s rs2)

/-- AMOMIN.D (45_a R731). -/
def execAmominD (aq rl : Bool) (rd rs1 rs2 : Reg) (s : State) : Out :=
  run (.amominD aq rl rd rs1 rs2) s fun s => amoTo s rd .min (rX s rs1) 8 (rX s rs2)

/-- AMOMAX.D (45_a R732). -/
def execAmomaxD (aq rl : Bool) (rd rs1 rs2 : Reg) (s : State) : Out :=
  run (.amomaxD aq rl rd rs1 rs2) s fun s => amoTo s rd .max (rX s rs1) 8 (rX s rs2)

/-- AMOMINU.D (45_a R733). -/
def execAmominuD (aq rl : Bool) (rd rs1 rs2 : Reg) (s : State) : Out :=
  run (.amominuD aq rl rd rs1 rs2) s fun s => amoTo s rd .minu (rX s rs1) 8 (rX s rs2)

/-- AMOMAXU.D (45_a R734). -/
def execAmomaxuD (aq rl : Bool) (rd rs1 rs2 : Reg) (s : State) : Out :=
  run (.amomaxuD aq rl rd rs1 rs2) s fun s => amoTo s rd .maxu (rX s rs1) 8 (rX s rs2)

end Sys2Proof.Machine
end

