-- ==== Sys2Proof/Machine/Control.lean ====
section
/-! DEFINITION. Jumps and branches (40_rv32i). -/

namespace Sys2Proof.Machine

/-- JAL (40_rv32i R576). -/
def execJal (rd : Reg) (imm : BitVec 20) (s : State) : Out :=
  run (.jal rd imm) s fun s => jump s rd (wrap s.cfg (s.pc + jalOffset imm))

/-- JALR (40_rv32i R577). -/
def execJalr (rd rs1 : Reg) (imm : BitVec 12) (s : State) : Out :=
  run (.jalr rd rs1 imm) s fun s => jump s rd (effAddr s rs1 imm &&& ~~~1)

/-- BEQ (40_rv32i R578). -/
def execBeq (rs1 rs2 : Reg) (imm : BitVec 12) (s : State) : Out :=
  run (.beq rs1 rs2 imm) s fun s => branch s (rX s rs1 == rX s rs2) imm

/-- BNE (40_rv32i R579). -/
def execBne (rs1 rs2 : Reg) (imm : BitVec 12) (s : State) : Out :=
  run (.bne rs1 rs2 imm) s fun s => branch s (rX s rs1 != rX s rs2) imm

/-- BLT (40_rv32i R581). -/
def execBlt (rs1 rs2 : Reg) (imm : BitVec 12) (s : State) : Out :=
  run (.blt rs1 rs2 imm) s fun s => branch s (ltS s.cfg (rX s rs1) (rX s rs2)) imm

/-- BGE (40_rv32i R582). -/
def execBge (rs1 rs2 : Reg) (imm : BitVec 12) (s : State) : Out :=
  run (.bge rs1 rs2 imm) s fun s => branch s (!ltS s.cfg (rX s rs1) (rX s rs2)) imm

/-- BLTU (40_rv32i R583). -/
def execBltu (rs1 rs2 : Reg) (imm : BitVec 12) (s : State) : Out :=
  run (.bltu rs1 rs2 imm) s fun s => branch s (ltU s.cfg (rX s rs1) (rX s rs2)) imm

/-- BGEU (40_rv32i R584). -/
def execBgeu (rs1 rs2 : Reg) (imm : BitVec 12) (s : State) : Out :=
  run (.bgeu rs1 rs2 imm) s fun s => branch s (!ltU s.cfg (rX s rs1) (rX s rs2)) imm

end Sys2Proof.Machine
end

