-- ==== Sys2Proof/Machine/Fences.lean ====
section
/-! DEFINITION. NOP, fences and hints (40_rv32i, 42_zifencei_hints). -/

namespace Sys2Proof.Machine

/-- NOP (40_rv32i R575). -/
def execNop (s : State) : Out :=
  run .nop s fun s => .ok () (retire s)

/-- FENCE (40_rv32i R606): what other agents may observe is `fenceSets`. -/
def execFence (fm pred succ : BitVec 4) (rs1 rd : Reg) (s : State) : Out :=
  run (.fence fm pred succ rs1 rd) s fun s => .ok () (retire s)

/-- FENCE.TSO (40_rv32i R607). -/
def execFenceTso (s : State) : Out :=
  run .fenceTso s fun s => .ok () (retire s)

/-- PAUSE (42_zifencei_hints R653). -/
def execPause (s : State) : Out :=
  run .pause s fun s => .ok () (retire s)

/-- FENCE.I (42_zifencei_hints R650): later fetches see this hart's stores. -/
def execFenceI (imm : BitVec 12) (rs1 rd : Reg) (s : State) : Out :=
  run (.fenceI imm rs1 rd) s fun s => .ok () (retire { s with istale := [] })

/-- NTL.P1 (42_zifencei_hints R655). -/
def execNtlP1 (s : State) : Out :=
  run .ntlP1 s fun s => .ok () (retire s)

/-- NTL.PALL (42_zifencei_hints R655). -/
def execNtlPall (s : State) : Out :=
  run .ntlPall s fun s => .ok () (retire s)

/-- NTL.S1 (42_zifencei_hints R655). -/
def execNtlS1 (s : State) : Out :=
  run .ntlS1 s fun s => .ok () (retire s)

/-- NTL.ALL (42_zifencei_hints R655). -/
def execNtlAll (s : State) : Out :=
  run .ntlAll s fun s => .ok () (retire s)

end Sys2Proof.Machine
end

