-- ==== Sys2Proof/Machine/Csr.lean ====
section
/-! DEFINITION. The control and status registers: which exist, who may access them, what a read returns and what a write
leaves (10_state R64 to R78, 11_csr_machine, 12_csr_supervisor, 13_csr_hypervisor, 21_pmp, 43_zicsr R663 to R667). -/

namespace Sys2Proof.Machine

/-- The allocated CSRs that this hardware can have (10_state R75); numbered ones by their number. -/
inductive Csr where
  | cycle | time | instret | hpmcounter (n : Nat)
  | cycleh | timeh | instreth | hpmcounterh (n : Nat)
  | sstatus | sie | stvec | scounteren | senvcfg | sscratch | sepc | scause | stval | sip | satp
  | hstatus | hedeleg | hideleg | hie | htimedelta | hcounteren | hgeie | henvcfg | htimedeltah | henvcfgh
  | htval | hip | hvip | htinst | hgatp | hgeip
  | vsstatus | vsie | vstvec | vsscratch | vsepc | vscause | vstval | vsip | vsatp
  | mvendorid | marchid | mimpid | mhartid | mconfigptr
  | mstatus | misa | medeleg | mideleg | mie | mtvec | mcounteren | mstatush
  | mscratch | mepc | mcause | mtval | mip | mtinst | mtval2 | menvcfg | menvcfgh
  | pmpcfg (n : Nat) | pmpaddr (n : Nat)
  | mcycle | minstret | mhpmcounter (n : Nat) | mcycleh | minstreth | mhpmcounterh (n : Nat)
  | mcountinhibit | mhpmevent (n : Nat)
  deriving DecidableEq, Repr

/-- The supervisor and unprivileged CSRs that have an address of their own (R75). -/
def csrTableS : List (Nat × Csr) :=
  [(0xC00, .cycle), (0xC01, .time), (0xC02, .instret), (0xC80, .cycleh), (0xC81, .timeh), (0xC82, .instreth),
   (0x100, .sstatus), (0x104, .sie), (0x105, .stvec), (0x106, .scounteren), (0x10A, .senvcfg), (0x140, .sscratch),
   (0x141, .sepc), (0x142, .scause), (0x143, .stval), (0x144, .sip), (0x180, .satp)]

/-- The hypervisor and virtual supervisor CSRs. -/
def csrTableH : List (Nat × Csr) :=
  [(0x600, .hstatus), (0x602, .hedeleg), (0x603, .hideleg), (0x604, .hie), (0x605, .htimedelta), (0x606, .hcounteren),
   (0x607, .hgeie), (0x60A, .henvcfg), (0x615, .htimedeltah), (0x61A, .henvcfgh), (0x643, .htval), (0x644, .hip),
   (0x645, .hvip), (0x64A, .htinst), (0x680, .hgatp), (0xE12, .hgeip), (0x200, .vsstatus), (0x204, .vsie),
   (0x205, .vstvec), (0x240, .vsscratch), (0x241, .vsepc), (0x242, .vscause), (0x243, .vstval), (0x244, .vsip),
   (0x280, .vsatp)]

/-- The machine CSRs. -/
def csrTableM : List (Nat × Csr) :=
  [(0xF11, .mvendorid), (0xF12, .marchid), (0xF13, .mimpid), (0xF14, .mhartid), (0xF15, .mconfigptr), (0x300, .mstatus),
   (0x301, .misa), (0x302, .medeleg), (0x303, .mideleg), (0x304, .mie), (0x305, .mtvec), (0x306, .mcounteren),
   (0x310, .mstatush), (0x340, .mscratch), (0x341, .mepc), (0x342, .mcause), (0x343, .mtval), (0x344, .mip),
   (0x34A, .mtinst), (0x34B, .mtval2), (0x30A, .menvcfg), (0x31A, .menvcfgh), (0xB00, .mcycle), (0xB02, .minstret),
   (0xB80, .mcycleh), (0xB82, .minstreth), (0x320, .mcountinhibit)]

/-- The allocated CSR at an address. -/
def csrAt (addr : BitVec 12) : Option Csr :=
  let a := addr.toNat
  match (csrTableS ++ csrTableH ++ csrTableM).lookup a with
  | some r => some r
  | none =>
    if 0xC03 ≤ a ∧ a ≤ 0xC1F then some (.hpmcounter (a - 0xC00))
    else if 0xC83 ≤ a ∧ a ≤ 0xC9F then some (.hpmcounterh (a - 0xC80))
    else if 0xB03 ≤ a ∧ a ≤ 0xB1F then some (.mhpmcounter (a - 0xB00))
    else if 0xB83 ≤ a ∧ a ≤ 0xB9F then some (.mhpmcounterh (a - 0xB80))
    else if 0x323 ≤ a ∧ a ≤ 0x33F then some (.mhpmevent (a - 0x320))
    else if 0x3A0 ≤ a ∧ a ≤ 0x3AF then some (.pmpcfg (a - 0x3A0))
    else if 0x3B0 ≤ a ∧ a ≤ 0x3EF then some (.pmpaddr (a - 0x3B0))
    else none

/-- The register exists in this configuration (R75). -/
def csrExists (c : Config) (r : Csr) : Bool :=
  match r with
  | .time => c.timeCsr
  | .timeh => !c.rv64 && c.timeCsr
  | .cycleh | .instreth | .hpmcounterh _ | .mcycleh | .minstreth | .mhpmcounterh _ | .mstatush => !c.rv64
  | .htimedeltah | .henvcfgh => c.hasH && !c.rv64
  | .menvcfgh => c.hasU && !c.rv64
  | .sstatus | .sie | .stvec | .scounteren | .senvcfg | .sscratch | .sepc | .scause | .stval | .sip | .satp
  | .medeleg | .mideleg => c.hasS
  | .hstatus | .hedeleg | .hideleg | .hie | .htimedelta | .hcounteren | .hgeie | .henvcfg | .htval | .hip | .hvip
  | .htinst | .hgatp | .hgeip | .vsstatus | .vsie | .vstvec | .vsscratch | .vsepc | .vscause | .vstval | .vsip | .vsatp
  | .mtinst | .mtval2 => c.hasH
  | .mcounteren | .menvcfg => c.hasU
  | .mcountinhibit => c.hasMcountinhibit
  | .pmpcfg n => !c.rv64 || n % 2 == 0
  | _ => true

/-- With V = 1 the VS CSRs replace the supervisor CSRs (13_csr_hypervisor R310). -/
def csrRedirect (virt : Bool) (r : Csr) : Csr :=
  if virt then
    match r with
    | .sstatus => .vsstatus
    | .sie => .vsie
    | .stvec => .vstvec
    | .sscratch => .vsscratch
    | .sepc => .vsepc
    | .scause => .vscause
    | .stval => .vstval
    | .sip => .vsip
    | .satp => .vsatp
    | other => other
  else r

/-! ### The access check (43_zicsr R663, R666, R667) -/

/-- Which exception denies an access. -/
inductive Denied where
  | illegal
  | virtual
  deriving DecidableEq, Repr

/-- The implemented bits of mcounteren, scounteren and hcounteren. -/
def counterenMask (c : Config) : BitVec 32 := if c.timeCsr then 0xFFFFFFFF else 0xFFFFFFFD

/-- The counter whose access the counter-enable registers control (R666). -/
def csrCounter : Csr → Option Nat
  | .cycle => some 0
  | .cycleh => some 0
  | .time => some 1
  | .timeh => some 1
  | .instret => some 2
  | .instreth => some 2
  | .hpmcounter n => some n
  | .hpmcounterh n => some n
  | _ => none

/-- Counter access control (R666). -/
def counterCheck (s : State) (n : Nat) : Option Denied :=
  let k := counterenMask s.cfg
  if s.priv = .M then none
  else if !(s.m.mcounteren &&& k).getLsbD n then some .illegal
  else if s.virt then
    if !(s.h.hcounteren &&& k).getLsbD n then some .virtual
    else if s.priv = .U ∧ !(s.sv.scounteren &&& k).getLsbD n then some .virtual
    else none
  else if s.priv = .U ∧ s.cfg.hasS ∧ !(s.sv.scounteren &&& k).getLsbD n then some .illegal
  else none

/-- Step 3 of R663: the privilege the address asks for in bits 9:8. -/
def privCheck (s : State) (required : Nat) : Option Denied :=
  if s.virt then
    if required = 3 then some .illegal
    else if required = 2 then some .virtual
    else if required = 1 ∧ s.priv = .U then some .virtual
    else none
  else
    let eff := if s.cfg.hasH ∧ s.priv = .S then 2 else s.priv.code
    if eff < required then some .illegal else none

/-- Step 4 of R663. -/
def specialCheck (s : State) (r : Csr) : Option Denied :=
  match csrCounter r with
  | some n => counterCheck s n
  | none =>
    if r = .satp then
      if s.virt then (if s.priv = .S ∧ hstatusBit s VTVM then some .virtual else none)
      else if s.priv = .S ∧ mstatusBit s TVM then some .illegal
      else none
    else if r = .hgatp ∧ s.priv = .S ∧ s.virt = false ∧ mstatusBit s TVM then some .illegal
    else none

/-- CSRcheck(csr, does_write): the register accessed, or the exception. -/
def csrCheck (s : State) (addr : BitVec 12) (write : Bool) : Except Denied Csr :=
  match csrAt addr with
  | none => .error .illegal
  | some r =>
    if !csrExists s.cfg r then .error .illegal
    else if write && addr.extractLsb' 10 2 == 3 then .error .illegal
    else
      match privCheck s (addr.extractLsb' 8 2).toNat with
      | some d => .error d
      | none =>
        match specialCheck s r with
        | some d => .error d
        | none => .ok (csrRedirect s.virt r)

/-! ### Reads (R664) -/

/-- misa (11_csr_machine R102, R103). -/
def misaValue (c : Config) : Word :=
  maskIf c.extA (bitMask 0) ||| maskIf c.rve (bitMask 4) ||| maskIf c.hasH (bitMask 7) ||| maskIf (!c.rve) (bitMask 8) |||
  maskIf c.extM (bitMask 12) ||| maskIf c.hasS (bitMask 18) ||| maskIf c.hasU (bitMask 20) |||
  (if c.rv64 then bitMask 63 else bitMask 30)

/-- The high half of a 64-bit register. -/
def high32 (w : Word) : Word := w >>> 32

/-- mhpmcounter n; read-only zero unless implemented (R143). -/
def hpmRead (s : State) (n : Nat) : BitVec 64 := if s.cfg.hpmMask.getLsbD n then s.m.hpmcounter.toArray.getD n 0 else 0

/-- The implemented bits of menvcfg (R163). -/
def menvcfgMask (c : Config) : Word := maskIf c.fiomWritable (bitMask 0) ||| maskIf c.extSvpbmt (bitMask 62)

/-- The implemented bits of henvcfg: PBMTE only while menvcfg.PBMTE is set (13_csr_hypervisor R281). -/
def henvcfgMask (s : State) : Word := maskIf s.cfg.fiomWritable (bitMask 0) ||| maskIf (menvcfgPbmte s) (bitMask 62)

/-- The implemented bits of senvcfg (12_csr_supervisor R222). -/
def senvcfgMask (c : Config) : Word := maskIf c.fiomWritable (bitMask 0)

/-- The time CSR's 64 bits: with V = 1 the delta is added (13_csr_hypervisor R284). -/
def timeRead (s : State) : BitVec 64 := if s.virt then s.plat.mtime + s.h.htimedelta else s.plat.mtime

/-- The entries a pmpcfg register holds, lowest byte first (21_pmp R404). -/
def pmpcfgEntries (c : Config) (n : Nat) : List Nat := (List.range (if c.rv64 then 8 else 4)).map (4 * n + ·)

/-- One entry's configuration byte; read-only zero beyond the implemented entries (21_pmp R403; D12). -/
def pmpcfgByte (s : State) (i : Nat) : BitVec 8 :=
  if i < s.cfg.pmpEntries then s.pmp.cfg.toArray.getD i 0 &&& 0x9F else 0

def pmpcfgRead (s : State) (n : Nat) : Word := ofBytes ((pmpcfgEntries s.cfg n).map (pmpcfgByte s))

def pmpaddrRead (s : State) (i : Nat) : Word :=
  if h : i < 64 then (if i < s.cfg.pmpEntries then pmpAddrView s.cfg s.pmp ⟨i, h⟩ else 0) else 0

/-- vsip and vsie's bits of a view of mip or mie (13_csr_hypervisor R314). -/
def vsView (s : State) (w : Word) : Word := (w &&& hidelegRead s) >>> 1

/-- CSRread(csr), XLEN bits. -/
def csrRead (s : State) (r : Csr) : Word :=
  wrap s.cfg <|
    match r with
    | .cycle => s.m.mcycle
    | .time => timeRead s
    | .instret => s.m.minstret
    | .hpmcounter n => hpmRead s n
    | .cycleh => high32 s.m.mcycle
    | .timeh => high32 (timeRead s)
    | .instreth => high32 s.m.minstret
    | .hpmcounterh n => high32 (hpmRead s n)
    | .sstatus => sstatusRead s
    | .sie => mieRead s &&& midelegRead s &&& 0x222
    | .stvec => s.sv.stvec
    | .scounteren => (s.sv.scounteren &&& counterenMask s.cfg).setWidth 64
    | .senvcfg => s.sv.senvcfg &&& senvcfgMask s.cfg
    | .sscratch => s.sv.sscratch
    | .sepc => s.sv.sepc &&& ~~~3
    | .scause => s.sv.scause
    | .stval => s.sv.stval
    | .sip => mipRead s &&& midelegRead s &&& 0x222
    | .satp => satpRead s
    | .hstatus => hstatusRead s
    | .hedeleg => hedelegRead s
    | .hideleg => hidelegRead s
    | .hie => mieRead s &&& 0x1444
    | .htimedelta => s.h.htimedelta
    | .hcounteren => (s.h.hcounteren &&& counterenMask s.cfg).setWidth 64
    | .hgeie => hgeieRead s
    | .henvcfg => s.h.henvcfg &&& henvcfgMask s
    | .htimedeltah => high32 s.h.htimedelta
    | .henvcfgh => high32 (s.h.henvcfg &&& henvcfgMask s)
    | .htval => s.h.htval
    | .hip => mipRead s &&& 0x1444
    | .hvip => hvipRead s
    | .htinst => s.h.htinst
    | .hgatp => hgatpRead s
    | .hgeip => hgeipRead s
    | .vsstatus => vsstatusRead s
    | .vsie => vsView s (mieRead s)
    | .vstvec => s.vs.vstvec
    | .vsscratch => s.vs.vsscratch
    | .vsepc => s.vs.vsepc &&& ~~~3
    | .vscause => s.vs.vscause
    | .vstval => s.vs.vstval
    | .vsip => vsView s (mipRead s)
    | .vsatp => vsatpRead s
    | .mvendorid => (low32 s.cfg.mvendorid).setWidth 64
    | .marchid => s.cfg.marchid
    | .mimpid => s.cfg.mimpid
    | .mhartid => s.cfg.mhartid
    | .mconfigptr => s.cfg.mconfigptr &&& ~~~(if s.cfg.rv64 then 7 else 3)
    | .mstatus => mstatusRead s
    | .misa => misaValue s.cfg
    | .medeleg => medelegRead s
    | .mideleg => midelegRead s
    | .mie => mieRead s
    | .mtvec => s.m.mtvec
    | .mcounteren => (s.m.mcounteren &&& counterenMask s.cfg).setWidth 64
    | .mstatush => high32 (mstatusRead s)
    | .mscratch => s.m.mscratch
    | .mepc => s.m.mepc &&& ~~~3
    | .mcause => s.m.mcause
    | .mtval => if s.cfg.mtvalWritable then s.m.mtval else 0
    | .mip => mipRead s
    | .mtinst => s.m.mtinst
    | .mtval2 => s.m.mtval2
    | .menvcfg => s.m.menvcfg &&& menvcfgMask s.cfg
    | .menvcfgh => high32 (s.m.menvcfg &&& menvcfgMask s.cfg)
    | .pmpcfg n => pmpcfgRead s n
    | .pmpaddr n => pmpaddrRead s n
    | .mcycle => s.m.mcycle
    | .minstret => s.m.minstret
    | .mhpmcounter n => hpmRead s n
    | .mcycleh => high32 s.m.mcycle
    | .minstreth => high32 s.m.minstret
    | .mhpmcounterh n => high32 (hpmRead s n)
    | .mcountinhibit => (s.m.mcountinhibit &&& countinhibitMask s.cfg).setWidth 64
    | .mhpmevent n => if s.cfg.hpmMask.getLsbD n then s.m.hpmevent.toArray.getD n 0 else 0

/-- The old value as it takes part in a set or clear: of mip.SEIP only the software bit (11_csr_machine R137). -/
def csrOld (s : State) (r : Csr) : Word :=
  match r with
  | .mip => merge (bitMask 9) (csrRead s .mip) (mipStored s)
  | _ => csrRead s r

/-! ### Writes (R665) -/

/-- A 64-bit counter written XLEN bits at a time: the low half at XLEN = 32 (11_csr_machine R144). -/
def writeLow (c : Config) (old v : Word) : Word := if c.rv64 then v else merge (fieldMask 0 32) old v

/-- The high half written. -/
def writeHigh (old v : Word) : Word := merge (fieldMask 32 32) old (v <<< 32)

/-- mtvec, stvec and vstvec: an unsupported MODE leaves MODE as it was; BASE is written (R127; entry 4), and in Vectored
mode meets that mode's alignment (DESIGN CHOICE, safe: entry 44). -/
def tvecWrite (c : Config) (vectored : Bool) (base vectoredBase old v : Word) : Word :=
  let mode := v.extractLsb' 0 2
  let m := if mode = 0 ∨ (mode = 1 ∧ vectored) then 3 else 0
  let new := wrap c (merge ((base &&& ~~~3) ||| m) old v)
  if new.extractLsb' 0 2 = 1 then new &&& (vectoredBase ||| 3) else new

/-- satp and vsatp: an unsupported MODE makes the whole write have no effect (12_csr_supervisor R225, 13 R322). -/
def satpWrite (c : Config) (old v : Word) : Word :=
  let m := atpMode c v
  if m = 0 ∨ c.satpModes.contains m then v &&& satpMask c else old

/-- hgatp: an unsupported MODE leaves MODE as it was (13_csr_hypervisor R290). -/
def hgatpWrite (c : Config) (old v : Word) : Word :=
  let m := atpMode c v
  let modeMask := if c.rv64 then fieldMask 60 4 else fieldMask 31 1
  (if m = 0 ∨ c.hgatpModes.contains m then v else merge modeMask v old) &&& hgatpMask c

/-- One PMP configuration byte written (21_pmp R406, R410, R411). -/
def pmpcfgLegal (c : Config) (old v : BitVec 8) : BitVec 8 :=
  if pmpL old then old
  else
    let rwx := if v.getLsbD 0 || !v.getLsbD 1 then v &&& 7 else old &&& 7
    let a := if pmpA v = 2 ∧ 1 ≤ c.pmpG then old &&& 0x18 else v &&& 0x18
    rwx ||| a ||| (v &&& 0x80)

/-- Bytes of a pmpcfg register written to the entries listed. -/
def pmpcfgWrite (c : Config) (p : Pmp) : List Nat → Word → Pmp
  | [], _ => p
  | i :: rest, v =>
    let p1 :=
      if h : i < 64 then
        (if i < c.pmpEntries then { p with cfg := p.cfg.set i (pmpcfgLegal c (p.cfg.get ⟨i, h⟩) (v.setWidth 8)) h } else p)
      else p
    pmpcfgWrite c p1 rest (v >>> 8)

/-- pmpaddr i is locked (R411). -/
def pmpaddrLocked (c : Config) (p : Pmp) (i : Nat) : Bool :=
  pmpL (p.cfg.toArray.getD i 0) ||
  (decide (i + 1 < c.pmpEntries) && pmpL (p.cfg.toArray.getD (i + 1) 0) && pmpA (p.cfg.toArray.getD (i + 1) 0) == 1)

def pmpaddrWrite (c : Config) (p : Pmp) (i : Nat) (v : Word) : Pmp :=
  if h : i < 64 then
    if i < c.pmpEntries ∧ !pmpaddrLocked c p i then { p with addr := p.addr.set i (v &&& pmpAddrMask c) h } else p
  else p

/-- New PMP settings; with paging the old ones may still be used until the fence (21_pmp R417, R418). -/
def setPmp (s : State) (p : Pmp) : State :=
  if p = s.pmp then s
  else if s.cfg.hasPaging then
    { s with pmp := p, pmpStale := s.pmp :: s.pmpStale,
             pmpStaleG := if s.cfg.hasH then s.pmp :: s.pmpStaleG else s.pmpStaleG }
  else { s with pmp := p }

/-- menvcfg written; henvcfg.PBMTE follows menvcfg.PBMTE's change (R162, 10_state R69). -/
def setMenvcfg (s : State) (v : Word) : State :=
  let t := { s with m := { s.m with menvcfg := merge (menvcfgMask s.cfg) s.m.menvcfg v } }
  if !s.cfg.hasH || menvcfgPbmte t == menvcfgPbmte s then t
  else if menvcfgPbmte t then
    { t with h := { t.h with henvcfg := setBit t.h.henvcfg 62 (Config.freeBit s.draws) }, draws := s.draws + 1 }
  else { t with h := { t.h with henvcfg := setBit t.h.henvcfg 62 false } }

/-- mie's bits of a mask written. -/
def setMie (s : State) (mask v : Word) : State :=
  { s with m := { s.m with mie := merge (mask &&& mieMask s.cfg) s.m.mie v } }

/-- hvip's bits of a mask written. -/
def setHvip (s : State) (mask v : Word) : State :=
  { s with h := { s.h with hvip := merge (mask &&& 0x444) s.h.hvip v } }

/-- mip written: SSIP, STIP, B and, with H, VSSIP in hvip (R141, 13_csr_hypervisor R304). -/
def setMip (s : State) (v : Word) : State :=
  let t := if s.cfg.hasS then { s with m := { s.m with mip := merge 0x222 s.m.mip v } } else s
  if s.cfg.hasH then setHvip t 4 v else t

/-- CSRwrite(csr, v). -/
def csrWrite (s : State) (r : Csr) (v : Word) : State :=
  let c := s.cfg
  match r with
  | .sstatus => mstatusWrite s (sstatusMask c) v
  | .sie => setMie s (midelegRead s &&& 0x222) v
  | .stvec => { s with sv := { s.sv with stvec := tvecWrite c c.stvecVectored c.stvecBase c.stvecVectoredBase s.sv.stvec v } }
  | .scounteren => { s with sv := { s.sv with scounteren := low32 v &&& counterenMask c } }
  | .senvcfg => { s with sv := { s.sv with senvcfg := v &&& senvcfgMask c } }
  | .sscratch => { s with sv := { s.sv with sscratch := v } }
  | .sepc => { s with sv := { s.sv with sepc := v &&& ~~~3 } }
  | .scause => { s with sv := { s.sv with scause := v } }
  | .stval => { s with sv := { s.sv with stval := v } }
  | .sip => if (midelegRead s).getLsbD 1 then { s with m := { s.m with mip := merge 2 s.m.mip v } } else s
  | .satp => { s with sv := { s.sv with satp := satpWrite c s.sv.satp v } }
  | .hstatus => { s with h := { s.h with hstatus := merge (hstatusMask c) s.h.hstatus v } }
  | .hedeleg => { s with h := { s.h with hedeleg := v &&& hedelegMask c } }
  | .hideleg => { s with h := { s.h with hideleg := v &&& hidelegMask } }
  | .hie => setMie s 0x1444 v
  | .htimedelta => { s with h := { s.h with htimedelta := writeLow c s.h.htimedelta v } }
  | .hcounteren => { s with h := { s.h with hcounteren := low32 v &&& counterenMask c } }
  | .hgeie => { s with h := { s.h with hgeie := v &&& geiMask c } }
  | .henvcfg => { s with h := { s.h with henvcfg := merge (henvcfgMask s) s.h.henvcfg (writeLow c s.h.henvcfg v) } }
  | .htimedeltah => { s with h := { s.h with htimedelta := writeHigh s.h.htimedelta v } }
  | .henvcfgh => { s with h := { s.h with henvcfg := merge (henvcfgMask s) s.h.henvcfg (writeHigh s.h.henvcfg v) } }
  | .htval => { s with h := { s.h with htval := v } }
  | .hip => setHvip s 4 v
  | .hvip => setHvip s 0x444 v
  | .htinst => { s with h := { s.h with htinst := v } }
  | .hgatp => { s with h := { s.h with hgatp := hgatpWrite c s.h.hgatp v } }
  | .vsstatus => { s with vs := { s.vs with vsstatus := merge (vsstatusMask c) s.vs.vsstatus v } }
  | .vsie => setMie s (hidelegRead s) (v <<< 1)
  | .vstvec => { s with vs := { s.vs with vstvec := tvecWrite c c.stvecVectored c.stvecBase c.stvecVectoredBase s.vs.vstvec v } }
  | .vsscratch => { s with vs := { s.vs with vsscratch := v } }
  | .vsepc => { s with vs := { s.vs with vsepc := v &&& ~~~3 } }
  | .vscause => { s with vs := { s.vs with vscause := v } }
  | .vstval => { s with vs := { s.vs with vstval := v } }
  | .vsip => if (hidelegRead s).getLsbD 2 then setHvip s 4 (v <<< 1) else s
  | .vsatp => { s with vs := { s.vs with vsatp := satpWrite c s.vs.vsatp v } }
  | .mstatus => mstatusWrite s (if c.rv64 then fieldMask 0 64 else fieldMask 0 32) v
  | .mstatush => mstatusWrite s (fieldMask 32 32) (v <<< 32)
  | .medeleg => { s with m := { s.m with medeleg := v &&& medelegMask c } }
  | .mideleg => { s with m := { s.m with mideleg := v &&& midelegMask c } }
  | .mie => setMie s (fieldMask 0 64) v
  | .mtvec => { s with m := { s.m with mtvec := tvecWrite c c.mtvecVectored c.mtvecBase c.mtvecVectoredBase s.m.mtvec v } }
  | .mcounteren => { s with m := { s.m with mcounteren := low32 v &&& counterenMask c } }
  | .mscratch => { s with m := { s.m with mscratch := v } }
  | .mepc => { s with m := { s.m with mepc := v &&& ~~~3 } }
  | .mcause => { s with m := { s.m with mcause := v } }
  | .mtval => if c.mtvalWritable then { s with m := { s.m with mtval := v } } else s
  | .mip => setMip s v
  | .mtinst => { s with m := { s.m with mtinst := v } }
  | .mtval2 => { s with m := { s.m with mtval2 := v } }
  | .menvcfg => setMenvcfg s (writeLow c s.m.menvcfg v)
  | .menvcfgh => setMenvcfg s (writeHigh s.m.menvcfg v)
  | .pmpcfg n => setPmp s (pmpcfgWrite c s.pmp (pmpcfgEntries c n) v)
  | .pmpaddr n => setPmp s (pmpaddrWrite c s.pmp n v)
  | .mcycle => { s with m := { s.m with mcycle := writeLow c s.m.mcycle v } }
  | .minstret => { s with m := { s.m with minstret := writeLow c s.m.minstret v } }
  | .mhpmcounter n => hpmWrite n (writeLow c (hpmRead s n) v)
  | .mcycleh => { s with m := { s.m with mcycle := writeHigh s.m.mcycle v } }
  | .minstreth => { s with m := { s.m with minstret := writeHigh s.m.minstret v } }
  | .mhpmcounterh n => hpmWrite n (writeHigh (hpmRead s n) v)
  | .mcountinhibit => { s with m := { s.m with mcountinhibit := low32 v &&& countinhibitMask c } }
  | .mhpmevent n =>
    if h : n < 32 then
      if c.hpmMask.getLsbD n && (v == 0 || Config.hpmSupports n v) then
        { s with m := { s.m with hpmevent := s.m.hpmevent.set n v h } }
      else s
    else s
  -- misa is read-only (11_csr_machine R105); the rest are read-only by address
  | .misa | .cycle | .time | .instret | .hpmcounter _ | .cycleh | .timeh | .instreth | .hpmcounterh _ | .hgeip
  | .mvendorid | .marchid | .mimpid | .mhartid | .mconfigptr => s
where
  /-- mhpmcounter n written, if it is implemented (R143). -/
  hpmWrite (n : Nat) (v : Word) : State :=
    if h : n < 32 then
      if s.cfg.hpmMask.getLsbD n then { s with m := { s.m with hpmcounter := s.m.hpmcounter.set n v h } } else s
    else s

/-! ### The six instructions' common frame (R661, R662, R678) -/

/-- CSRop: the check; then the instruction retires, the CSR is written if it is to be, and rd receives the old value. `new`
computes the value to write from the old one. A write of minstret wins over the instruction's own count (11_csr_machine
R142); at XLEN = 32 the half that is not written keeps it, carry included (DESIGN CHOICE, unsafe: entry 45). -/
def csrOp (i : Instr) (s : State) (rd : Reg) (addr : BitVec 12) (write : Bool) (new : Word → Word) : Res Unit :=
  match csrCheck s addr write with
  | .error .illegal => illegal i s
  | .error .virtual => virtualInstr i s
  | .ok r =>
    let s1 := retire s
    let s2 := if write then csrWrite s1 r (wrap s.cfg (new (csrOld s r))) else s1
    .ok () (wX s2 rd (csrRead s r))

end Sys2Proof.Machine
end

