-- ==== Sys2Proof/Machine/Fence.lean ====
section
/-! DEFINITION. What the fences do: removals from the address-translation cache (22_translation R471 to R477, 48_hypervisor
R790 to R792), the synchronisation of PMP settings (21_pmp R418, 22_translation R488), and the sets a FENCE orders (40_rv32i
R606). -/

namespace Sys2Proof.Machine

/-! ### What a fence does to the entries of the translation cache -/

/-- A fence's operand: absent if the register number is 0, whatever the register holds (R471). -/
def fenceOperand (s : State) (r : Reg) : Option Word := if r = 0 then none else some (rX s r)

/-- The fence names the entry's address space; a named one spares global mappings (R471). -/
def namesAsid (asid : Option Nat) (e : TcEntry) : Bool :=
  match asid with
  | none => true
  | some n => e.asid == n && !e.global

/-- The fence names the entry's virtual machine (R792). -/
def namesVmid (vmid : Option Nat) (e : TcEntry) : Bool :=
  match vmid with
  | none => true
  | some n => e.vmid == n

/-- The entry may be a leaf, and has been used to translate the address (46_privileged R750). -/
def tcUsed (a : Nat) (e : TcEntry) : Bool := pteMayBeLeaf e.pte && e.used.any fun p => a / 2 ^ p.1 == p.2

/-- A fence over the entries of a kind: without an address they are removed; with one, those that have been used to
translate it as leaves are, and the others serve no walk for that address as leaves any more (`tcFenced`; R471). -/
def tcFence (s : State) (p : TcEntry → Bool) (a : Option Nat) : State :=
  match a with
  | none => { s with tc := s.tc.filter fun e => !p e }
  | some a =>
    let kept := s.tc.filter fun e => !(p e && tcUsed a e)
    { s with tc := kept.map fun e => if p e then { e with fenced := a :: e.fenced } else e }

/-- The ASID in a fence's register: bits above ASIDLEN are ignored (R471). -/
def fenceAsid (c : Config) (v : Word) : Nat := getField v 0 c.asidLen

/-- The VMID in a fence's register (R792). -/
def fenceVmid (c : Config) (v : Word) : Nat := getField v 0 c.vmidLen

/-- The value is a virtual address of the MODE in a satp or vsatp value (R471). -/
def validVa (c : Config) (atp va : Word) : Bool :=
  let levels := svLevels (atpMode c atp)
  !c.rv64 || levels == 0 ||
    (let top := va.toNat / 2 ^ (11 + 9 * levels)
     top == 0 || top == 2 ^ (53 - 9 * levels) - 1)

/-- The fence over the tables rooted at satp (R471). -/
def fenceSingle (s : State) (rs1 rs2 : Reg) : State :=
  let va := fenceOperand s rs1
  if va.all (validVa s.cfg (satpRead s)) then
    tcFence s (fun e => e.stage == .single && namesAsid ((fenceOperand s rs2).map (fenceAsid s.cfg)) e)
      (va.map BitVec.toNat)
  else s

/-- The fence over the tables rooted at vsatp of the current virtual machine (R477, 48_hypervisor R790, R791). -/
def fenceVs (s : State) (rs1 rs2 : Reg) : State :=
  let va := fenceOperand s rs1
  if va.all (validVa s.cfg (vsatpRead s)) then
    tcFence s
      (fun e => e.stage == .vs && e.vmid == vmidOf s && namesAsid ((fenceOperand s rs2).map (fenceAsid s.cfg)) e)
      (va.map BitVec.toNat)
  else s

/-- The fence over the tables rooted at hgatp; rs1 holds a guest physical address shifted right by 2 (48_hypervisor R792). -/
def fenceG (s : State) (rs1 rs2 : Reg) : State :=
  tcFence s (fun e => e.stage == .g && namesVmid ((fenceOperand s rs2).map (fenceVmid s.cfg)) e)
    ((fenceOperand s rs1).map fun v => 4 * v.toNat)

/-- SFENCE.VMA x0, x0 in M-mode synchronises PMP settings with translation (21_pmp R418). -/
def syncPmp (s : State) (rs1 rs2 : Reg) : State :=
  if s.priv = .M ∧ rs1 = 0 ∧ rs2 = 0 then { s with pmpStale := [] } else s

/-- HFENCE.GVMA x0, x0 does so for the accesses of guests (22_translation R488). -/
def syncPmpG (s : State) (rs1 rs2 : Reg) : State := if rs1 = 0 ∧ rs2 = 0 then { s with pmpStaleG := [] } else s

/-- SFENCE.VMA's effect: on the HS-level tables, or with V = 1 on the VS-level ones (46_privileged R750). -/
def sfence (s : State) (rs1 rs2 : Reg) : State :=
  if s.virt then fenceVs s rs1 rs2 else syncPmp (fenceSingle s rs1 rs2) rs1 rs2

/-- HFENCE.VVMA's effect. -/
def hfenceV (s : State) (rs1 rs2 : Reg) : State := fenceVs s rs1 rs2

/-- HFENCE.GVMA's effect. -/
def hfenceG (s : State) (rs1 rs2 : Reg) : State := syncPmpG (fenceG s rs1 rs2) rs1 rs2

/-! ### Who may execute the supervisor and hypervisor instructions (46_privileged R753, 47_svinval R779, 48_hypervisor R803) -/

/-- SFENCE.VMA and SINVAL.VMA. -/
def sfenceDenied (s : State) : Option Denied :=
  if s.virt then (if s.priv = .U ∨ hstatusBit s VTVM then some .virtual else none)
  else if s.priv = .U ∨ (s.priv = .S ∧ mstatusBit s TVM) then some .illegal
  else none

/-- SFENCE.W.INVAL and SFENCE.INVAL.IR. -/
def orderDenied (s : State) : Option Denied :=
  if s.priv = .U then (if s.virt then some .virtual else some .illegal) else none

/-- HFENCE.VVMA and HINVAL.VVMA. -/
def hfenceVDenied (s : State) : Option Denied :=
  if s.virt then some .virtual else if s.priv = .U then some .illegal else none

/-- HFENCE.GVMA and HINVAL.GVMA. -/
def hfenceGDenied (s : State) : Option Denied :=
  if s.virt then some .virtual
  else if s.priv = .U ∨ (s.priv = .S ∧ mstatusBit s TVM) then some .illegal
  else none

/-- HLV, HLVX and HSV (R781). -/
def guestAccessDenied (s : State) : Option Denied :=
  if s.virt then some .virtual else if s.priv = .U ∧ !hstatusBit s HU then some .illegal else none

/-- SRET (R745). -/
def sretDenied (s : State) : Option Denied :=
  if s.virt then (if s.priv = .U ∨ hstatusBit s VTSR then some .virtual else none)
  else if s.priv = .U ∨ (s.priv = .S ∧ mstatusBit s TSR) then some .illegal
  else none

/-- WFI whose time limit has passed (R747). -/
def wfiDenied (s : State) : Option Denied :=
  if s.priv = .M then none
  else if mstatusBit s TW then some .illegal
  else if s.virt then (if s.priv = .U ∨ hstatusBit s VTW then some .virtual else none)
  else if s.priv = .U ∧ s.cfg.hasS then some .illegal
  else none

/-- The denial comes only after a time limit: TW's, VTW's or that of U-mode with S-mode, but not VU-mode's own (R747). -/
def wfiTimed (s : State) : Bool := mstatusBit s TW || !(s.virt && s.priv == .U)

/-- WFI completes within a time limit that is not zero: an enabled interrupt is pending, or it ends for any reason (R747,
R748). -/
def wfiInTime (s : State) : Bool :=
  !s.cfg.wfiLimitZero && wfiTimed s && (anyPending s || Config.wfiWithinLimit s.draws)

/-- The exception of a WFI, if it raises one. -/
def wfiTrap (s : State) : Option Denied := if wfiInTime s then none else wfiDenied s

/-- The body, or the exception that denies it. -/
def permit (i : Instr) (s : State) (d : Option Denied) (body : Res Unit) : Res Unit :=
  match d with
  | none => body
  | some .illegal => illegal i s
  | some .virtual => virtualInstr i s

/-! ### FENCE (40_rv32i R606; 11_csr_machine R161, 12_csr_supervisor R222, 13_csr_hypervisor R280) -/

/-- FIOM applies: to a mode below M by menvcfg, to U-mode by senvcfg too, with V = 1 by henvcfg too. -/
def fiom (s : State) : Bool :=
  s.cfg.fiomWritable && s.priv != .M &&
    ((s.cfg.hasU && s.m.menvcfg.getLsbD 0) || (s.cfg.hasS && s.priv == .U && s.sv.senvcfg.getLsbD 0) ||
      (s.virt && s.h.henvcfg.getLsbD 0))

/-- A set of kinds of access, bits I, O, R, W from the most significant down; under FIOM I implies R and O implies W. -/
def fenceSet (widen : Bool) (k : BitVec 4) : BitVec 4 := if widen then k ||| (k >>> 2) else k

/-- The predecessor and successor sets a FENCE orders. One hart makes its accesses in program order, so only other agents
can observe them (entry 12): no state depends on them. -/
def fenceSets (s : State) (pred succ : BitVec 4) : BitVec 4 × BitVec 4 := (fenceSet (fiom s) pred, fenceSet (fiom s) succ)

end Sys2Proof.Machine
end

