-- ==== Sys2Proof/Machine/Hypervisor.lean ====
section
/-! DEFINITION. Hypervisor fences and virtual-machine loads and stores (48_hypervisor). -/

namespace Sys2Proof.Machine

/-- HFENCE.VVMA (48_hypervisor R790). -/
def execHfenceVvma (rs1 rs2 : Reg) (s : State) : Out :=
  run (.hfenceVvma rs1 rs2) s fun s => permit (.hfenceVvma rs1 rs2) s (hfenceVDenied s) (.ok () (retire (hfenceV s rs1 rs2)))

/-- HFENCE.GVMA (48_hypervisor R792). -/
def execHfenceGvma (rs1 rs2 : Reg) (s : State) : Out :=
  run (.hfenceGvma rs1 rs2) s fun s => permit (.hfenceGvma rs1 rs2) s (hfenceGDenied s) (.ok () (retire (hfenceG s rs1 rs2)))

/-- HLV.B (48_hypervisor R784). -/
def execHlvB (rd rs1 : Reg) (s : State) : Out :=
  run (.hlvB rd rs1) s fun s => permit (.hlvB rd rs1) s (guestAccessDenied s) (loadTo s .guest .load rd (rX s rs1) 1 true)

/-- HLV.BU (48_hypervisor R785). -/
def execHlvBu (rd rs1 : Reg) (s : State) : Out :=
  run (.hlvBu rd rs1) s fun s => permit (.hlvBu rd rs1) s (guestAccessDenied s) (loadTo s .guest .load rd (rX s rs1) 1 false)

/-- HLV.H (48_hypervisor R786). -/
def execHlvH (rd rs1 : Reg) (s : State) : Out :=
  run (.hlvH rd rs1) s fun s => permit (.hlvH rd rs1) s (guestAccessDenied s) (loadTo s .guest .load rd (rX s rs1) 2 true)

/-- HLV.HU (48_hypervisor R787). -/
def execHlvHu (rd rs1 : Reg) (s : State) : Out :=
  run (.hlvHu rd rs1) s fun s => permit (.hlvHu rd rs1) s (guestAccessDenied s) (loadTo s .guest .load rd (rX s rs1) 2 false)

/-- HLVX.HU (48_hypervisor R794). -/
def execHlvxHu (rd rs1 : Reg) (s : State) : Out :=
  run (.hlvxHu rd rs1) s fun s => permit (.hlvxHu rd rs1) s (guestAccessDenied s) (loadTo s .guest .hlvx rd (rX s rs1) 2 false)

/-- HLV.W (48_hypervisor R788). -/
def execHlvW (rd rs1 : Reg) (s : State) : Out :=
  run (.hlvW rd rs1) s fun s => permit (.hlvW rd rs1) s (guestAccessDenied s) (loadTo s .guest .load rd (rX s rs1) 4 true)

/-- HLV.WU (48_hypervisor R789). -/
def execHlvWu (rd rs1 : Reg) (s : State) : Out :=
  run (.hlvWu rd rs1) s fun s => permit (.hlvWu rd rs1) s (guestAccessDenied s) (loadTo s .guest .load rd (rX s rs1) 4 false)

/-- HLVX.WU (48_hypervisor R795). -/
def execHlvxWu (rd rs1 : Reg) (s : State) : Out :=
  run (.hlvxWu rd rs1) s fun s => permit (.hlvxWu rd rs1) s (guestAccessDenied s) (loadTo s .guest .hlvx rd (rX s rs1) 4 false)

/-- HLV.D (48_hypervisor R793). -/
def execHlvD (rd rs1 : Reg) (s : State) : Out :=
  run (.hlvD rd rs1) s fun s => permit (.hlvD rd rs1) s (guestAccessDenied s) (loadTo s .guest .load rd (rX s rs1) 8 true)

/-- HSV.B (48_hypervisor R796). -/
def execHsvB (rs1 rs2 : Reg) (s : State) : Out :=
  run (.hsvB rs1 rs2) s fun s => permit (.hsvB rs1 rs2) s (guestAccessDenied s) (storeFrom s .guest (rX s rs1) 1 (rX s rs2))

/-- HSV.H (48_hypervisor R797). -/
def execHsvH (rs1 rs2 : Reg) (s : State) : Out :=
  run (.hsvH rs1 rs2) s fun s => permit (.hsvH rs1 rs2) s (guestAccessDenied s) (storeFrom s .guest (rX s rs1) 2 (rX s rs2))

/-- HSV.W (48_hypervisor R798). -/
def execHsvW (rs1 rs2 : Reg) (s : State) : Out :=
  run (.hsvW rs1 rs2) s fun s => permit (.hsvW rs1 rs2) s (guestAccessDenied s) (storeFrom s .guest (rX s rs1) 4 (rX s rs2))

/-- HSV.D (48_hypervisor R799). -/
def execHsvD (rs1 rs2 : Reg) (s : State) : Out :=
  run (.hsvD rs1 rs2) s fun s => permit (.hsvD rs1 rs2) s (guestAccessDenied s) (storeFrom s .guest (rX s rs1) 8 (rX s rs2))

end Sys2Proof.Machine
end

