-- ==== Sys2Proof/Machine/IntImm.lean ====
section
/-! DEFINITION. Integer instructions with an immediate (40_rv32i). -/

namespace Sys2Proof.Machine

/-- ADDI (40_rv32i R554). -/
def execAddi (rd rs1 : Reg) (imm : BitVec 12) (s : State) : Out :=
  run (.addi rd rs1 imm) s fun s => writeBack s rd (rX s rs1 + immXlen s.cfg imm)

/-- SLTI (40_rv32i R555). -/
def execSlti (rd rs1 : Reg) (imm : BitVec 12) (s : State) : Out :=
  run (.slti rd rs1 imm) s fun s => writeBack s rd (boolWord (ltS s.cfg (rX s rs1) (immXlen s.cfg imm)))

/-- SLTIU (40_rv32i R556): the immediate is sign-extended, then unsigned. -/
def execSltiu (rd rs1 : Reg) (imm : BitVec 12) (s : State) : Out :=
  run (.sltiu rd rs1 imm) s fun s => writeBack s rd (boolWord (ltU s.cfg (rX s rs1) (immXlen s.cfg imm)))

/-- XORI (40_rv32i R557). -/
def execXori (rd rs1 : Reg) (imm : BitVec 12) (s : State) : Out :=
  run (.xori rd rs1 imm) s fun s => writeBack s rd (rX s rs1 ^^^ immXlen s.cfg imm)

/-- ORI (40_rv32i R558). -/
def execOri (rd rs1 : Reg) (imm : BitVec 12) (s : State) : Out :=
  run (.ori rd rs1 imm) s fun s => writeBack s rd (rX s rs1 ||| immXlen s.cfg imm)

/-- ANDI (40_rv32i R559). -/
def execAndi (rd rs1 : Reg) (imm : BitVec 12) (s : State) : Out :=
  run (.andi rd rs1 imm) s fun s => writeBack s rd (rX s rs1 &&& immXlen s.cfg imm)

/-- SLLI (40_rv32i R560). -/
def execSlli (rd rs1 : Reg) (shamt : BitVec 6) (s : State) : Out :=
  run (.slli rd rs1 shamt) s fun s => writeBack s rd (opSll s.cfg (rX s rs1) shamt.toNat)

/-- SRLI (40_rv32i R561). -/
def execSrli (rd rs1 : Reg) (shamt : BitVec 6) (s : State) : Out :=
  run (.srli rd rs1 shamt) s fun s => writeBack s rd (opSrl s.cfg (rX s rs1) shamt.toNat)

/-- SRAI (40_rv32i R562). -/
def execSrai (rd rs1 : Reg) (shamt : BitVec 6) (s : State) : Out :=
  run (.srai rd rs1 shamt) s fun s => writeBack s rd (opSra s.cfg (rX s rs1) shamt.toNat)

/-- LUI (40_rv32i R552). -/
def execLui (rd : Reg) (imm : BitVec 20) (s : State) : Out :=
  run (.lui rd imm) s fun s => writeBack s rd (immUpper s.cfg imm)

/-- AUIPC (40_rv32i R553). -/
def execAuipc (rd : Reg) (imm : BitVec 20) (s : State) : Out :=
  run (.auipc rd imm) s fun s => writeBack s rd (s.pc + immUpper s.cfg imm)

end Sys2Proof.Machine
end

