-- ==== Sys2Proof/Machine/IntReg.lean ====
section
/-! DEFINITION. Integer instructions on registers (40_rv32i). -/

namespace Sys2Proof.Machine

/-- ADD (40_rv32i R563). -/
def execAdd (rd rs1 rs2 : Reg) (s : State) : Out :=
  run (.add rd rs1 rs2) s fun s => writeBack s rd (rX s rs1 + rX s rs2)

/-- SUB (40_rv32i R564). -/
def execSub (rd rs1 rs2 : Reg) (s : State) : Out :=
  run (.sub rd rs1 rs2) s fun s => writeBack s rd (rX s rs1 - rX s rs2)

/-- SLL (40_rv32i R565). -/
def execSll (rd rs1 rs2 : Reg) (s : State) : Out :=
  run (.sll rd rs1 rs2) s fun s => writeBack s rd (opSll s.cfg (rX s rs1) (shiftAmount s.cfg (rX s rs2)))

/-- SLT (40_rv32i R566). -/
def execSlt (rd rs1 rs2 : Reg) (s : State) : Out :=
  run (.slt rd rs1 rs2) s fun s => writeBack s rd (boolWord (ltS s.cfg (rX s rs1) (rX s rs2)))

/-- SLTU (40_rv32i R567). -/
def execSltu (rd rs1 rs2 : Reg) (s : State) : Out :=
  run (.sltu rd rs1 rs2) s fun s => writeBack s rd (boolWord (ltU s.cfg (rX s rs1) (rX s rs2)))

/-- XOR (40_rv32i R568). -/
def execXor (rd rs1 rs2 : Reg) (s : State) : Out :=
  run (.xor rd rs1 rs2) s fun s => writeBack s rd (rX s rs1 ^^^ rX s rs2)

/-- SRL (40_rv32i R569). -/
def execSrl (rd rs1 rs2 : Reg) (s : State) : Out :=
  run (.srl rd rs1 rs2) s fun s => writeBack s rd (opSrl s.cfg (rX s rs1) (shiftAmount s.cfg (rX s rs2)))

/-- SRA (40_rv32i R570). -/
def execSra (rd rs1 rs2 : Reg) (s : State) : Out :=
  run (.sra rd rs1 rs2) s fun s => writeBack s rd (opSra s.cfg (rX s rs1) (shiftAmount s.cfg (rX s rs2)))

/-- OR (40_rv32i R571). -/
def execOr (rd rs1 rs2 : Reg) (s : State) : Out :=
  run (.or rd rs1 rs2) s fun s => writeBack s rd (rX s rs1 ||| rX s rs2)

/-- AND (40_rv32i R572). -/
def execAnd (rd rs1 rs2 : Reg) (s : State) : Out :=
  run (.and rd rs1 rs2) s fun s => writeBack s rd (rX s rs1 &&& rX s rs2)

end Sys2Proof.Machine
end

