-- ==== Sys2Proof/Machine/LoadStore.lean ====
section
/-! DEFINITION. Loads and stores (40_rv32i R590, 41_rv64i). -/

namespace Sys2Proof.Machine

/-- LB (40_rv32i R591). -/
def execLb (rd rs1 : Reg) (imm : BitVec 12) (s : State) : Out :=
  run (.lb rd rs1 imm) s fun s => loadTo s .plain .load rd (effAddr s rs1 imm) 1 true

/-- LH (40_rv32i R592). -/
def execLh (rd rs1 : Reg) (imm : BitVec 12) (s : State) : Out :=
  run (.lh rd rs1 imm) s fun s => loadTo s .plain .load rd (effAddr s rs1 imm) 2 true

/-- LW (40_rv32i R593). -/
def execLw (rd rs1 : Reg) (imm : BitVec 12) (s : State) : Out :=
  run (.lw rd rs1 imm) s fun s => loadTo s .plain .load rd (effAddr s rs1 imm) 4 true

/-- LBU (40_rv32i R594). -/
def execLbu (rd rs1 : Reg) (imm : BitVec 12) (s : State) : Out :=
  run (.lbu rd rs1 imm) s fun s => loadTo s .plain .load rd (effAddr s rs1 imm) 1 false

/-- LHU (40_rv32i R595). -/
def execLhu (rd rs1 : Reg) (imm : BitVec 12) (s : State) : Out :=
  run (.lhu rd rs1 imm) s fun s => loadTo s .plain .load rd (effAddr s rs1 imm) 2 false

/-- LD (41_rv64i R631). -/
def execLd (rd rs1 : Reg) (imm : BitVec 12) (s : State) : Out :=
  run (.ld rd rs1 imm) s fun s => loadTo s .plain .load rd (effAddr s rs1 imm) 8 true

/-- LWU (41_rv64i R632). -/
def execLwu (rd rs1 : Reg) (imm : BitVec 12) (s : State) : Out :=
  run (.lwu rd rs1 imm) s fun s => loadTo s .plain .load rd (effAddr s rs1 imm) 4 false

/-- SB (40_rv32i R596). -/
def execSb (rs1 rs2 : Reg) (imm : BitVec 12) (s : State) : Out :=
  run (.sb rs1 rs2 imm) s fun s => storeFrom s .plain (effAddr s rs1 imm) 1 (rX s rs2)

/-- SH (40_rv32i R597). -/
def execSh (rs1 rs2 : Reg) (imm : BitVec 12) (s : State) : Out :=
  run (.sh rs1 rs2 imm) s fun s => storeFrom s .plain (effAddr s rs1 imm) 2 (rX s rs2)

/-- SW (40_rv32i R598). -/
def execSw (rs1 rs2 : Reg) (imm : BitVec 12) (s : State) : Out :=
  run (.sw rs1 rs2 imm) s fun s => storeFrom s .plain (effAddr s rs1 imm) 4 (rX s rs2)

/-- SD (41_rv64i R633). -/
def execSd (rs1 rs2 : Reg) (imm : BitVec 12) (s : State) : Out :=
  run (.sd rs1 rs2 imm) s fun s => storeFrom s .plain (effAddr s rs1 imm) 8 (rX s rs2)

end Sys2Proof.Machine
end

