-- ==== Sys2Proof/Machine/MulDiv.lean ====
section
/-! DEFINITION. Multiplication and division (44_m). No operand traps (R688). -/

namespace Sys2Proof.Machine

/-- MUL (44_m R682). -/
def execMul (rd rs1 rs2 : Reg) (s : State) : Out :=
  run (.mul rd rs1 rs2) s fun s => writeBack s rd (opMul s.cfg (rX s rs1) (rX s rs2))

/-- MULH (44_m R683). -/
def execMulh (rd rs1 rs2 : Reg) (s : State) : Out :=
  run (.mulh rd rs1 rs2) s fun s => writeBack s rd (opMulh s.cfg (rX s rs1) (rX s rs2))

/-- MULHSU (44_m R684). -/
def execMulhsu (rd rs1 rs2 : Reg) (s : State) : Out :=
  run (.mulhsu rd rs1 rs2) s fun s => writeBack s rd (opMulhsu s.cfg (rX s rs1) (rX s rs2))

/-- MULHU (44_m R685). -/
def execMulhu (rd rs1 rs2 : Reg) (s : State) : Out :=
  run (.mulhu rd rs1 rs2) s fun s => writeBack s rd (opMulhu s.cfg (rX s rs1) (rX s rs2))

/-- DIV (44_m R689). -/
def execDiv (rd rs1 rs2 : Reg) (s : State) : Out :=
  run (.div rd rs1 rs2) s fun s => writeBack s rd (opDiv s.cfg (rX s rs1) (rX s rs2))

/-- DIVU (44_m R690). -/
def execDivu (rd rs1 rs2 : Reg) (s : State) : Out :=
  run (.divu rd rs1 rs2) s fun s => writeBack s rd (opDivu s.cfg (rX s rs1) (rX s rs2))

/-- REM (44_m R691). -/
def execRem (rd rs1 rs2 : Reg) (s : State) : Out :=
  run (.rem rd rs1 rs2) s fun s => writeBack s rd (opRem s.cfg (rX s rs1) (rX s rs2))

/-- REMU (44_m R692). -/
def execRemu (rd rs1 rs2 : Reg) (s : State) : Out :=
  run (.remu rd rs1 rs2) s fun s => writeBack s rd (opRemu s.cfg (rX s rs1) (rX s rs2))

/-- MULW (44_m R686). -/
def execMulw (rd rs1 rs2 : Reg) (s : State) : Out :=
  run (.mulw rd rs1 rs2) s fun s => writeBack s rd (opMulw (rX s rs1) (rX s rs2))

/-- DIVW (44_m R693). -/
def execDivw (rd rs1 rs2 : Reg) (s : State) : Out :=
  run (.divw rd rs1 rs2) s fun s => writeBack s rd (opDivw (rX s rs1) (rX s rs2))

/-- DIVUW (44_m R694). -/
def execDivuw (rd rs1 rs2 : Reg) (s : State) : Out :=
  run (.divuw rd rs1 rs2) s fun s => writeBack s rd (opDivuw (rX s rs1) (rX s rs2))

/-- REMW (44_m R695). -/
def execRemw (rd rs1 rs2 : Reg) (s : State) : Out :=
  run (.remw rd rs1 rs2) s fun s => writeBack s rd (opRemw (rX s rs1) (rX s rs2))

/-- REMUW (44_m R696). -/
def execRemuw (rd rs1 rs2 : Reg) (s : State) : Out :=
  run (.remuw rd rs1 rs2) s fun s => writeBack s rd (opRemuw (rX s rs1) (rX s rs2))

end Sys2Proof.Machine
end

