-- ==== Sys2Proof/Machine/Privileged.lean ====
section
/-! DEFINITION. ECALL, EBREAK, the trap returns, WFI and SFENCE.VMA (46_privileged). -/

namespace Sys2Proof.Machine

/-- The cause ECALL reports (R740). -/
def ecallCause (s : State) : Nat :=
  match s.priv with
  | .M => 11
  | .S => if s.virt then 10 else 9
  | .U => 8

/-- ECALL (46_privileged R740). -/
def execEcall (s : State) : Out :=
  run .ecall s fun s => .trap (instrExc (ecallCause s) 0 false) s

/-- EBREAK (46_privileged R741). -/
def execEbreak (s : State) : Out :=
  run .ebreak s fun s => .trap (instrExc 3 s.pc s.virt) s

/-- MRET (46_privileged R744). -/
def execMret (s : State) : Out :=
  run .mret s fun s => permit .mret s (if s.priv = .M then none else some .illegal) (.ok () (returnM s))

/-- SRET (46_privileged R745). -/
def execSret (s : State) : Out :=
  run .sret s fun s => permit .sret s (sretDenied s) (.ok () (if s.virt then returnVS s else returnS s))

/-- The hart stalls after a WFI that no time limit ends, unless an enabled interrupt is pending (46_privileged R748). -/
def wfiStalls (s : State) : Bool := s.cfg.wfiMayStall && !anyPending s && (wfiDenied s).isNone

/-- WFI (46_privileged R747, R748): `wake` says when a stalled hart goes on. -/
def execWfi (s : State) : Out :=
  run .wfi s fun s => permit .wfi s (wfiTrap s) (.ok () { retire s with stalled := wfiStalls s })

/-- SFENCE.VMA (46_privileged R750). -/
def execSfenceVma (rs1 rs2 : Reg) (s : State) : Out :=
  run (.sfenceVma rs1 rs2) s fun s => permit (.sfenceVma rs1 rs2) s (sfenceDenied s) (.ok () (retire (sfence s rs1 rs2)))

end Sys2Proof.Machine
end

