-- ==== Sys2Proof/Machine/Svinval.lean ====
section
/-! DEFINITION. Fine-grained invalidation (47_svinval). -/

namespace Sys2Proof.Machine

/-- SINVAL.VMA (47_svinval R771): acts at once, as the fence (R774). -/
def execSinvalVma (rs1 rs2 : Reg) (s : State) : Out :=
  run (.sinvalVma rs1 rs2) s fun s => permit (.sinvalVma rs1 rs2) s (sfenceDenied s) (.ok () (retire (sfence s rs1 rs2)))

/-- SFENCE.W.INVAL (47_svinval R772): no state change (R774). -/
def execSfenceWInval (s : State) : Out :=
  run .sfenceWInval s fun s => permit .sfenceWInval s (orderDenied s) (.ok () (retire s))

/-- SFENCE.INVAL.IR (47_svinval R773): no state change (R774). -/
def execSfenceInvalIr (s : State) : Out :=
  run .sfenceInvalIr s fun s => permit .sfenceInvalIr s (orderDenied s) (.ok () (retire s))

/-- HINVAL.VVMA (47_svinval R776): acts at once (R774). -/
def execHinvalVvma (rs1 rs2 : Reg) (s : State) : Out :=
  run (.hinvalVvma rs1 rs2) s fun s => permit (.hinvalVvma rs1 rs2) s (hfenceVDenied s) (.ok () (retire (hfenceV s rs1 rs2)))

/-- HINVAL.GVMA (47_svinval R777): acts at once (R774). -/
def execHinvalGvma (rs1 rs2 : Reg) (s : State) : Out :=
  run (.hinvalGvma rs1 rs2) s fun s => permit (.hinvalGvma rs1 rs2) s (hfenceGDenied s) (.ok () (retire (hfenceG s rs1 rs2)))

end Sys2Proof.Machine
end

