-- ==== Sys2Proof/Machine/Word64.lean ====
section
/-! DEFINITION. The word instructions of RV64I (41_rv64i). -/

namespace Sys2Proof.Machine

/-- ADDIW (41_rv64i R622). -/
def execAddiw (rd rs1 : Reg) (imm : BitVec 12) (s : State) : Out :=
  run (.addiw rd rs1 imm) s fun s => writeBack s rd (opAddw (rX s rs1) (immXlen s.cfg imm))

/-- SLLIW (41_rv64i R623). -/
def execSlliw (rd rs1 : Reg) (shamt : BitVec 5) (s : State) : Out :=
  run (.slliw rd rs1 shamt) s fun s => writeBack s rd (opSllw (rX s rs1) shamt.toNat)

/-- SRLIW (41_rv64i R624). -/
def execSrliw (rd rs1 : Reg) (shamt : BitVec 5) (s : State) : Out :=
  run (.srliw rd rs1 shamt) s fun s => writeBack s rd (opSrlw (rX s rs1) shamt.toNat)

/-- SRAIW (41_rv64i R625). -/
def execSraiw (rd rs1 : Reg) (shamt : BitVec 5) (s : State) : Out :=
  run (.sraiw rd rs1 shamt) s fun s => writeBack s rd (opSraw (rX s rs1) shamt.toNat)

/-- ADDW (41_rv64i R626). -/
def execAddw (rd rs1 rs2 : Reg) (s : State) : Out :=
  run (.addw rd rs1 rs2) s fun s => writeBack s rd (opAddw (rX s rs1) (rX s rs2))

/-- SUBW (41_rv64i R627). -/
def execSubw (rd rs1 rs2 : Reg) (s : State) : Out :=
  run (.subw rd rs1 rs2) s fun s => writeBack s rd (opSubw (rX s rs1) (rX s rs2))

/-- SLLW (41_rv64i R628). -/
def execSllw (rd rs1 rs2 : Reg) (s : State) : Out :=
  run (.sllw rd rs1 rs2) s fun s => writeBack s rd (opSllw (rX s rs1) (shiftAmountW (rX s rs2)))

/-- SRLW (41_rv64i R629). -/
def execSrlw (rd rs1 rs2 : Reg) (s : State) : Out :=
  run (.srlw rd rs1 rs2) s fun s => writeBack s rd (opSrlw (rX s rs1) (shiftAmountW (rX s rs2)))

/-- SRAW (41_rv64i R630). -/
def execSraw (rd rs1 rs2 : Reg) (s : State) : Out :=
  run (.sraw rd rs1 rs2) s fun s => writeBack s rd (opSraw (rX s rs1) (shiftAmountW (rX s rs2)))

end Sys2Proof.Machine
end

