-- ==== Sys2Proof/Machine/Zicsr.lean ====
section
/-! DEFINITION. The CSR instructions (43_zicsr). -/

namespace Sys2Proof.Machine

/-- CSRRW (43_zicsr R670). -/
def execCsrrw (rd rs1 : Reg) (csr : BitVec 12) (s : State) : Out :=
  run (.csrrw rd rs1 csr) s fun s => csrOp (.csrrw rd rs1 csr) s rd csr true fun _ => rX s rs1

/-- CSRRS (43_zicsr R671). -/
def execCsrrs (rd rs1 : Reg) (csr : BitVec 12) (s : State) : Out :=
  run (.csrrs rd rs1 csr) s fun s => csrOp (.csrrs rd rs1 csr) s rd csr (rs1 != 0) fun old => old ||| rX s rs1

/-- CSRRC (43_zicsr R672). -/
def execCsrrc (rd rs1 : Reg) (csr : BitVec 12) (s : State) : Out :=
  run (.csrrc rd rs1 csr) s fun s => csrOp (.csrrc rd rs1 csr) s rd csr (rs1 != 0) fun old => old &&& ~~~(rX s rs1)

/-- CSRRWI (43_zicsr R673). -/
def execCsrrwi (rd : Reg) (uimm : BitVec 5) (csr : BitVec 12) (s : State) : Out :=
  run (.csrrwi rd uimm csr) s fun s => csrOp (.csrrwi rd uimm csr) s rd csr true fun _ => uimm.setWidth 64

/-- CSRRSI (43_zicsr R674). -/
def execCsrrsi (rd : Reg) (uimm : BitVec 5) (csr : BitVec 12) (s : State) : Out :=
  run (.csrrsi rd uimm csr) s fun s => csrOp (.csrrsi rd uimm csr) s rd csr (uimm != 0) fun old => old ||| uimm.setWidth 64

/-- CSRRCI (43_zicsr R675). -/
def execCsrrci (rd : Reg) (uimm : BitVec 5) (csr : BitVec 12) (s : State) : Out :=
  run (.csrrci rd uimm csr) s fun s => csrOp (.csrrci rd uimm csr) s rd csr (uimm != 0) fun old => old &&& ~~~(uimm.setWidth 64)

end Sys2Proof.Machine
end

