-- ==== Sys2Proof/Machine/Dispatch.lean ====
section
/-! DEFINITION. One arm per instruction, each a call of its meaning. -/

namespace Sys2Proof.Machine

def exec (i : Instr) (s : State) : Host.Outcome State Fault Refusal :=
  match i with
  | .lui rd imm => Sys2Proof.Machine.execLui rd imm s
  | .auipc rd imm => Sys2Proof.Machine.execAuipc rd imm s
  | .jal rd imm => Sys2Proof.Machine.execJal rd imm s
  | .jalr rd rs1 imm => Sys2Proof.Machine.execJalr rd rs1 imm s
  | .beq rs1 rs2 imm => Sys2Proof.Machine.execBeq rs1 rs2 imm s
  | .bne rs1 rs2 imm => Sys2Proof.Machine.execBne rs1 rs2 imm s
  | .blt rs1 rs2 imm => Sys2Proof.Machine.execBlt rs1 rs2 imm s
  | .bge rs1 rs2 imm => Sys2Proof.Machine.execBge rs1 rs2 imm s
  | .bltu rs1 rs2 imm => Sys2Proof.Machine.execBltu rs1 rs2 imm s
  | .bgeu rs1 rs2 imm => Sys2Proof.Machine.execBgeu rs1 rs2 imm s
  | .lb rd rs1 imm => Sys2Proof.Machine.execLb rd rs1 imm s
  | .lh rd rs1 imm => Sys2Proof.Machine.execLh rd rs1 imm s
  | .lw rd rs1 imm => Sys2Proof.Machine.execLw rd rs1 imm s
  | .lbu rd rs1 imm => Sys2Proof.Machine.execLbu rd rs1 imm s
  | .lhu rd rs1 imm => Sys2Proof.Machine.execLhu rd rs1 imm s
  | .ld rd rs1 imm => Sys2Proof.Machine.execLd rd rs1 imm s
  | .lwu rd rs1 imm => Sys2Proof.Machine.execLwu rd rs1 imm s
  | .sb rs1 rs2 imm => Sys2Proof.Machine.execSb rs1 rs2 imm s
  | .sh rs1 rs2 imm => Sys2Proof.Machine.execSh rs1 rs2 imm s
  | .sw rs1 rs2 imm => Sys2Proof.Machine.execSw rs1 rs2 imm s
  | .sd rs1 rs2 imm => Sys2Proof.Machine.execSd rs1 rs2 imm s
  | .addi rd rs1 imm => Sys2Proof.Machine.execAddi rd rs1 imm s
  | .slti rd rs1 imm => Sys2Proof.Machine.execSlti rd rs1 imm s
  | .sltiu rd rs1 imm => Sys2Proof.Machine.execSltiu rd rs1 imm s
  | .xori rd rs1 imm => Sys2Proof.Machine.execXori rd rs1 imm s
  | .ori rd rs1 imm => Sys2Proof.Machine.execOri rd rs1 imm s
  | .andi rd rs1 imm => Sys2Proof.Machine.execAndi rd rs1 imm s
  | .slli rd rs1 shamt => Sys2Proof.Machine.execSlli rd rs1 shamt s
  | .srli rd rs1 shamt => Sys2Proof.Machine.execSrli rd rs1 shamt s
  | .srai rd rs1 shamt => Sys2Proof.Machine.execSrai rd rs1 shamt s
  | .add rd rs1 rs2 => Sys2Proof.Machine.execAdd rd rs1 rs2 s
  | .sub rd rs1 rs2 => Sys2Proof.Machine.execSub rd rs1 rs2 s
  | .sll rd rs1 rs2 => Sys2Proof.Machine.execSll rd rs1 rs2 s
  | .slt rd rs1 rs2 => Sys2Proof.Machine.execSlt rd rs1 rs2 s
  | .sltu rd rs1 rs2 => Sys2Proof.Machine.execSltu rd rs1 rs2 s
  | .xor rd rs1 rs2 => Sys2Proof.Machine.execXor rd rs1 rs2 s
  | .srl rd rs1 rs2 => Sys2Proof.Machine.execSrl rd rs1 rs2 s
  | .sra rd rs1 rs2 => Sys2Proof.Machine.execSra rd rs1 rs2 s
  | .or rd rs1 rs2 => Sys2Proof.Machine.execOr rd rs1 rs2 s
  | .and rd rs1 rs2 => Sys2Proof.Machine.execAnd rd rs1 rs2 s
  | .nop => Sys2Proof.Machine.execNop s
  | .fence fm pred succ rs1 rd => Sys2Proof.Machine.execFence fm pred succ rs1 rd s
  | .fenceTso => Sys2Proof.Machine.execFenceTso s
  | .pause => Sys2Proof.Machine.execPause s
  | .fenceI imm rs1 rd => Sys2Proof.Machine.execFenceI imm rs1 rd s
  | .ecall => Sys2Proof.Machine.execEcall s
  | .ebreak => Sys2Proof.Machine.execEbreak s
  | .addiw rd rs1 imm => Sys2Proof.Machine.execAddiw rd rs1 imm s
  | .slliw rd rs1 shamt => Sys2Proof.Machine.execSlliw rd rs1 shamt s
  | .srliw rd rs1 shamt => Sys2Proof.Machine.execSrliw rd rs1 shamt s
  | .sraiw rd rs1 shamt => Sys2Proof.Machine.execSraiw rd rs1 shamt s
  | .addw rd rs1 rs2 => Sys2Proof.Machine.execAddw rd rs1 rs2 s
  | .subw rd rs1 rs2 => Sys2Proof.Machine.execSubw rd rs1 rs2 s
  | .sllw rd rs1 rs2 => Sys2Proof.Machine.execSllw rd rs1 rs2 s
  | .srlw rd rs1 rs2 => Sys2Proof.Machine.execSrlw rd rs1 rs2 s
  | .sraw rd rs1 rs2 => Sys2Proof.Machine.execSraw rd rs1 rs2 s
  | .ntlP1 => Sys2Proof.Machine.execNtlP1 s
  | .ntlPall => Sys2Proof.Machine.execNtlPall s
  | .ntlS1 => Sys2Proof.Machine.execNtlS1 s
  | .ntlAll => Sys2Proof.Machine.execNtlAll s
  | .csrrw rd rs1 csr => Sys2Proof.Machine.execCsrrw rd rs1 csr s
  | .csrrs rd rs1 csr => Sys2Proof.Machine.execCsrrs rd rs1 csr s
  | .csrrc rd rs1 csr => Sys2Proof.Machine.execCsrrc rd rs1 csr s
  | .csrrwi rd uimm csr => Sys2Proof.Machine.execCsrrwi rd uimm csr s
  | .csrrsi rd uimm csr => Sys2Proof.Machine.execCsrrsi rd uimm csr s
  | .csrrci rd uimm csr => Sys2Proof.Machine.execCsrrci rd uimm csr s
  | .mul rd rs1 rs2 => Sys2Proof.Machine.execMul rd rs1 rs2 s
  | .mulh rd rs1 rs2 => Sys2Proof.Machine.execMulh rd rs1 rs2 s
  | .mulhsu rd rs1 rs2 => Sys2Proof.Machine.execMulhsu rd rs1 rs2 s
  | .mulhu rd rs1 rs2 => Sys2Proof.Machine.execMulhu rd rs1 rs2 s
  | .div rd rs1 rs2 => Sys2Proof.Machine.execDiv rd rs1 rs2 s
  | .divu rd rs1 rs2 => Sys2Proof.Machine.execDivu rd rs1 rs2 s
  | .rem rd rs1 rs2 => Sys2Proof.Machine.execRem rd rs1 rs2 s
  | .remu rd rs1 rs2 => Sys2Proof.Machine.execRemu rd rs1 rs2 s
  | .mulw rd rs1 rs2 => Sys2Proof.Machine.execMulw rd rs1 rs2 s
  | .divw rd rs1 rs2 => Sys2Proof.Machine.execDivw rd rs1 rs2 s
  | .divuw rd rs1 rs2 => Sys2Proof.Machine.execDivuw rd rs1 rs2 s
  | .remw rd rs1 rs2 => Sys2Proof.Machine.execRemw rd rs1 rs2 s
  | .remuw rd rs1 rs2 => Sys2Proof.Machine.execRemuw rd rs1 rs2 s
  | .lrW aq rl rd rs1 => Sys2Proof.Machine.execLrW aq rl rd rs1 s
  | .scW aq rl rd rs1 rs2 => Sys2Proof.Machine.execScW aq rl rd rs1 rs2 s
  | .amoswapW aq rl rd rs1 rs2 => Sys2Proof.Machine.execAmoswapW aq rl rd rs1 rs2 s
  | .amoaddW aq rl rd rs1 rs2 => Sys2Proof.Machine.execAmoaddW aq rl rd rs1 rs2 s
  | .amoxorW aq rl rd rs1 rs2 => Sys2Proof.Machine.execAmoxorW aq rl rd rs1 rs2 s
  | .amoandW aq rl rd rs1 rs2 => Sys2Proof.Machine.execAmoandW aq rl rd rs1 rs2 s
  | .amoorW aq rl rd rs1 rs2 => Sys2Proof.Machine.execAmoorW aq rl rd rs1 rs2 s
  | .amominW aq rl rd rs1 rs2 => Sys2Proof.Machine.execAmominW aq rl rd rs1 rs2 s
  | .amomaxW aq rl rd rs1 rs2 => Sys2Proof.Machine.execAmomaxW aq rl rd rs1 rs2 s
  | .amominuW aq rl rd rs1 rs2 => Sys2Proof.Machine.execAmominuW aq rl rd rs1 rs2 s
  | .amomaxuW aq rl rd rs1 rs2 => Sys2Proof.Machine.execAmomaxuW aq rl rd rs1 rs2 s
  | .lrD aq rl rd rs1 => Sys2Proof.Machine.execLrD aq rl rd rs1 s
  | .scD aq rl rd rs1 rs2 => Sys2Proof.Machine.execScD aq rl rd rs1 rs2 s
  | .amoswapD aq rl rd rs1 rs2 => Sys2Proof.Machine.execAmoswapD aq rl rd rs1 rs2 s
  | .amoaddD aq rl rd rs1 rs2 => Sys2Proof.Machine.execAmoaddD aq rl rd rs1 rs2 s
  | .amoxorD aq rl rd rs1 rs2 => Sys2Proof.Machine.execAmoxorD aq rl rd rs1 rs2 s
  | .amoandD aq rl rd rs1 rs2 => Sys2Proof.Machine.execAmoandD aq rl rd rs1 rs2 s
  | .amoorD aq rl rd rs1 rs2 => Sys2Proof.Machine.execAmoorD aq rl rd rs1 rs2 s
  | .amominD aq rl rd rs1 rs2 => Sys2Proof.Machine.execAmominD aq rl rd rs1 rs2 s
  | .amomaxD aq rl rd rs1 rs2 => Sys2Proof.Machine.execAmomaxD aq rl rd rs1 rs2 s
  | .amominuD aq rl rd rs1 rs2 => Sys2Proof.Machine.execAmominuD aq rl rd rs1 rs2 s
  | .amomaxuD aq rl rd rs1 rs2 => Sys2Proof.Machine.execAmomaxuD aq rl rd rs1 rs2 s
  | .sret => Sys2Proof.Machine.execSret s
  | .mret => Sys2Proof.Machine.execMret s
  | .wfi => Sys2Proof.Machine.execWfi s
  | .sfenceVma rs1 rs2 => Sys2Proof.Machine.execSfenceVma rs1 rs2 s
  | .sinvalVma rs1 rs2 => Sys2Proof.Machine.execSinvalVma rs1 rs2 s
  | .sfenceWInval => Sys2Proof.Machine.execSfenceWInval s
  | .sfenceInvalIr => Sys2Proof.Machine.execSfenceInvalIr s
  | .hinvalVvma rs1 rs2 => Sys2Proof.Machine.execHinvalVvma rs1 rs2 s
  | .hinvalGvma rs1 rs2 => Sys2Proof.Machine.execHinvalGvma rs1 rs2 s
  | .hfenceVvma rs1 rs2 => Sys2Proof.Machine.execHfenceVvma rs1 rs2 s
  | .hfenceGvma rs1 rs2 => Sys2Proof.Machine.execHfenceGvma rs1 rs2 s
  | .hlvB rd rs1 => Sys2Proof.Machine.execHlvB rd rs1 s
  | .hlvBu rd rs1 => Sys2Proof.Machine.execHlvBu rd rs1 s
  | .hlvH rd rs1 => Sys2Proof.Machine.execHlvH rd rs1 s
  | .hlvHu rd rs1 => Sys2Proof.Machine.execHlvHu rd rs1 s
  | .hlvxHu rd rs1 => Sys2Proof.Machine.execHlvxHu rd rs1 s
  | .hlvW rd rs1 => Sys2Proof.Machine.execHlvW rd rs1 s
  | .hlvWu rd rs1 => Sys2Proof.Machine.execHlvWu rd rs1 s
  | .hlvxWu rd rs1 => Sys2Proof.Machine.execHlvxWu rd rs1 s
  | .hlvD rd rs1 => Sys2Proof.Machine.execHlvD rd rs1 s
  | .hsvB rs1 rs2 => Sys2Proof.Machine.execHsvB rs1 rs2 s
  | .hsvH rs1 rs2 => Sys2Proof.Machine.execHsvH rs1 rs2 s
  | .hsvW rs1 rs2 => Sys2Proof.Machine.execHsvW rs1 rs2 s
  | .hsvD rs1 rs2 => Sys2Proof.Machine.execHsvD rs1 rs2 s

end Sys2Proof.Machine
end

