-- ==== Sys2Proof/Machine/Events.lean ====
section
/-! DEFINITION. What happens to the hart between instructions: the environment's events, reset, the traps of a boundary, the
stall of WFI, and the passing of time (60_exceptions R850 to R855, R870, 70_reset_and_hazards R930, R932). -/

namespace Sys2Proof.Machine

/-! ### Stores of other agents (45_a R708) -/

/-- The reservation, unless a byte stored at one of the addresses ends it. -/
def dropReservation (s : State) (ends : Reservation → Nat → Bool) (addrs : List Nat) : State :=
  match s.resv with
  | none => s
  | some v => if addrs.any (ends v) then setResv s none else s

/-- The bytes are stored, to memory or to a memory-mapped register; this hart's fetches may still see what was in memory
(20_memory R385). The event does not say which bytes one store makes, so a fetch may also see a word with some of them only
(DESIGN CHOICE, safe: entry 47). -/
def storeCells (s : State) (cells : List Host.Cell) : State := cells.foldl (fun t e => physStore t e.1 [e.2]) s

/-- The addresses of a register's bytes. -/
def deviceBytes (c : Config) (r : DevReg) : List Nat := (List.range r.size).map (deviceAddr c r + ·)

/-- The addresses of the bytes that other harts store in an event: those it lists, and those of the registers it has them
write whole. -/
def hartAddrs (c : Config) (e : Input) : List Nat :=
  e.stores.map Prod.fst ++
  (if e.mtime.isSome then deviceBytes c .mtime else []) ++
  (if e.mtimecmp.isSome then deviceBytes c (.mtimecmp c.mhartid.toNat) else []) ++
  (if e.msip.isSome then deviceBytes c (.msip c.mhartid.toNat) else [])

/-- The addresses of the bytes that devices store in an event. -/
def deviceAddrs (e : Input) : List Nat := e.deviceStores.map Prod.fst

/-- The address is in the reservation set. -/
def inReservationSet (c : Config) (v : Reservation) (a : Nat) : Bool := v.block == a / 2 ^ c.rsetLog2

/-- The address is one of the bytes the LR read. -/
def inLrBytes (v : Reservation) (a : Nat) : Bool := decide (v.addr ≤ a) && decide (a < v.addr + v.size)

/-- Other harts store: any byte of the reservation set, be it memory's or a register's, ends the reservation. The registers
written whole take their values in `setPlatform`. -/
def hartStores (s : State) (e : Input) : State :=
  storeCells (dropReservation s (inReservationSet s.cfg) (hartAddrs s.cfg e)) e.stores

/-- Devices store: a byte the LR read ends the reservation, another byte of the set may. -/
def deviceStores (s : State) (e : Input) : State :=
  storeCells
    (dropReservation s (fun v a => inLrBytes v a || (e.dropResv && inReservationSet s.cfg v a)) (deviceAddrs e))
    e.deviceStores

/-! ### Reset (70_reset_and_hazards R930) -/

/-- The fields A and L of every PMP entry are cleared (21_pmp R419). -/
def resetPmp (p : Pmp) : Pmp := { p with cfg := p.cfg.map (· &&& 0x67) }

/-- The MODE field of an address-translation register is cleared. -/
def clearMode (c : Config) (v : Word) : Word := v &&& ~~~(if c.rv64 then fieldMask 60 4 else fieldMask 31 1)

/-- Reset(h): what R930 leaves UNSPECIFIED keeps its value (DESIGN CHOICE, unsafe: entry 15). -/
def resetHart (s : State) : State :=
  let s1 := setMstatus (setMstatus (setMstatus s MIE false) MPRV false) MBE false
  { s1 with
    pc := s.cfg.resetVector
    priv := .M
    virt := false
    m := { s1.m with mcause := 0 }
    plat := { s.plat with msip := false }
    pmp := resetPmp s.pmp
    h := { s.h with hgatp := clearMode s.cfg s.h.hgatp }
    vs := { s.vs with vsatp := clearMode s.cfg s.vs.vsatp }
    resv := none
    stalled := false
    tc := []
    istale := []
    pmpStale := []
    pmpStaleG := [] }

/-! ### The environment (60_exceptions R850 to R853; entry 14) -/

/-- The interrupt lines and the platform's registers, as the event leaves them. Another hart may write mtime, and this
hart's mtimecmp and msip, whole (10_state R80; entry 14); what such a write does to the reservation is in `hartStores`. -/
def setPlatform (s : State) (e : Input) : State :=
  { s with
    plat :=
      { s.plat with
        mei := e.mei
        sei := e.sei
        gei := e.gei
        nmi := e.nmi
        msip := e.msip.getD s.plat.msip
        mtime := e.mtime.getD s.plat.mtime
        mtimecmp := e.mtimecmp.getD s.plat.mtimecmp } }

/-- One event: stores, lines, reset, speculative walks. -/
def applyInput (s : State) (e : Input) : State :=
  let s1 := setPlatform (deviceStores (hartStores s e) e) e
  e.walks.foldl specWalk (if e.reset then resetHart s1 else s1)

/-- The next event of the schedule, if any is left. -/
def consume (s : State) : State :=
  match s.inputs with
  | [] => s
  | e :: rest => applyInput { s with inputs := rest } e

/-! ### Boundaries (R855, R870) and the stall (46_privileged R748, R749) -/

/-- The trap taken instead of an instruction. -/
def boundaryTrap (s : State) : Option State :=
  if s.plat.nmi then some (takeNmi s)
  else
    match pendingInterrupt s with
    | some (i, d) => some (takeInterrupt s i d)
    | none => none

/-- Whether the hart executes: a stalled one resumes if an enabled interrupt is pending, and may at any other time. -/
def wake (s : State) : Bool × State :=
  if !s.stalled then (true, s)
  else if anyPending s then (true, unstall s)
  else if Config.wfiWakes s.draws then (true, unstall (drawn s))
  else (false, drawn s)

/-! ### Time (11_csr_machine R142, R143, R146; 60_exceptions R852) -/

/-- Counter n advances by `d` in a step from `start` to `s` unless it is inhibited. Whether the cycles of a step that writes
mcountinhibit go by the old bit or the new one the spec does not say (R146): here only a counter inhibited before and after is
sure to stand still (DESIGN CHOICE, safe: entry 6). -/
def advance (start s : State) (n : Nat) (v d : BitVec 64) : BitVec 64 :=
  if inhibited start n && inhibited s n then v else v + d

/-- The implemented event counters advance, those whose selector names an event: 0 is no event (R143). In a step that writes
the selector the old value may count as well as the new (DESIGN CHOICE, safe: entry 6). -/
def hpmTick (start s : State) : Vector (BitVec 64) 32 :=
  if s.cfg.hpmMask = 0 then s.m.hpmcounter
  else
    Vector.ofFn fun i =>
      let v := s.m.hpmcounter.get i
      if 3 ≤ i.val ∧ s.cfg.hpmMask.getLsbD i.val ∧ (start.m.hpmevent.get i ≠ 0 ∨ s.m.hpmevent.get i ≠ 0) then
        advance start s i.val v (Config.hpmAdvance start i.val (s.m.hpmevent.get i))
      else v

/-- Time passes in a step from `start`: mtime, mcycle and the event counters advance by free amounts that may depend on all
of `start`, the operands of its instruction among it (44_m R699). The step's own advance comes wholly after an explicit write
of the counter, which 43_zicsr R661 leaves open (DESIGN CHOICE, safe: entry 6). A step that writes mcountinhibit or an event
selector: `advance`, `hpmTick`. -/
def tick (start s : State) : State :=
  { s with
    m := { s.m with mcycle := advance start s 0 s.m.mcycle (Config.cycleAdvance start), hpmcounter := hpmTick start s }
    plat := { s.plat with mtime := s.plat.mtime + Config.mtimeAdvance start }
    draws := s.draws + 1 }

/-! ### Placing an instruction -/

/-- Where the next instruction is fetched from. -/
def fetchAddr (s : State) : Nat :=
  match translate s { acc := .exec, priv := s.priv, virt := s.virt, va := s.pc, ea := s.pc, spec := false, setA := true,
                      setAVs := true } with
  | .ok m _ => m.pa
  | _ => s.pc.toNat

/-- Bytes stored where the next instruction is fetched from, so that a fetch sees no older word (entry 22). -/
def placeWord (s : State) (bs : List Byte) : State :=
  let a := fetchAddr s
  { s with mem := Memory.writeBytes s.mem a bs, istale := s.istale.filter fun e => e.1 != a }

end Sys2Proof.Machine
end

