-- ==== Sys2Proof/Machine/Step.lean ====
section
/-! DEFINITION. One step: the environment's event, then an NMI, an interrupt, an idle tick of a stalled hart, or one
instruction (60_exceptions R841, R855, R870; 46_privileged R748). -/

namespace Sys2Proof.Machine

/-- The instruction at pc is fetched, decoded and executed; an unallocated word is an illegal instruction (30_encoding
R516). -/
def runInstr (s : State) : Host.Outcome State Fault Refusal :=
  match fetch s with
  | .ok w s1 =>
    match decode w with
    | some i => exec i s1
    | none => .next (raise s1 w (illegalExc w))
  | .trap e s1 => .next (raise s1 0 e)

/-- An outcome of a step from `start`, time having passed: after the instruction's own effects, an explicit counter write
among them (entry 6). -/
def after (start : State) : Host.Outcome State Fault Refusal → Host.Outcome State Fault Refusal
  | .next s => .next (tick start s)
  | .fault f => .fault f
  | .refused r => .refused r

/-- One step. -/
def step (s : State) : Host.Outcome State Fault Refusal :=
  let s0 := consume s
  match boundaryTrap s0 with
  | some t => .next (tick s t)
  | none =>
    match wake s0 with
    | (true, t) => after s (runInstr t)
    | (false, t) => .next (tick s t)

/-- An instruction of `nbits` bits `w` stored where the next step fetches (entry 22). -/
def State.withFetchWord (s : State) (nbits w : Nat) : State := placeWord s (tableBytes nbits w)

end Sys2Proof.Machine
end

