-- ==== Sys2Proof/Safety.lean ====
section
/-! DEFINITION. What a safe state is, and the words in which claims speak of results: register values as integers at width
XLEN, memory byte by byte, and what an instruction leaves as it was. -/

namespace Sys2Proof.Machine

/-! ### The invariant -/

/-- The mode is one the hart has: S and U only where implemented, V = 1 only with the hypervisor extension and below M
(10_state R63). -/
def modeLegal (s : State) : Prop :=
  (s.priv = .S → s.cfg.hasS = true) ∧ (s.priv = .U → s.cfg.hasU = true) ∧
  (s.virt = true → s.cfg.hasH = true ∧ s.priv ≠ .M)

/-- What every step keeps: legal parameters, memory in its canonical form, x0 zero and every register within XLEN bits
(R50, R51), pc a multiple of 4 within XLEN bits (R57, R60), a legal mode, and a legal MPP (11_csr_machine R116). -/
structure Inv (s : State) : Prop where
  cfg : s.cfg.valid = true
  mem : Memory.wf s.mem = true
  x0 : s.regs.get 0 = 0
  width : ∀ r : Fin 32, wrap s.cfg (s.regs.get r) = s.regs.get r
  pcAligned : s.pc.toNat % 4 = 0
  pcWidth : wrap s.cfg s.pc = s.pc
  mode : modeLegal s
  mpp : mppLegal s.cfg (getField s.m.mstatus MPP 2) = true

/-! ### Values -/

/-- The XLEN-bit register value of an integer (00_scope R17). -/
def ofXlen (c : Config) (z : Int) : Word := BitVec.ofNat 64 (z % 2 ^ c.xlen).toNat

/-- x[r] read as an unsigned number. -/
def uReg (s : State) (r : Reg) : Nat := (rX s r).toNat

/-- x[r] read as a two's-complement number of XLEN bits. -/
def sReg (s : State) (r : Reg) : Int := Int.bmod (uReg s r) (2 ^ s.cfg.xlen)

/-- The low 32 bits of x[r], as an unsigned and as a two's-complement number. -/
def uReg32 (s : State) (r : Reg) : Nat := uReg s r % 2 ^ 32

def sReg32 (s : State) (r : Reg) : Int := Int.bmod (uReg s r) (2 ^ 32)

/-- A W instruction's result: the low 32 bits of an integer, sign-extended (41_rv64i R621). -/
def ofWord (c : Config) (z : Int) : Word := ofXlen c (Int.bmod z (2 ^ 32))

/-- 1 or 0, as a comparison writes it. -/
def flag (p : Prop) [Decidable p] : Word := if p then 1 else 0

/-- The number the n bytes from an address up stand for in little-endian order (20_memory R336). -/
def littleValue (mem : List Host.Cell) (a : Nat) : Nat → Nat
  | 0 => 0
  | n + 1 => (Memory.read mem a).toNat + 256 * littleValue mem (a + 1) n

/-- The same in big-endian order. -/
def bigValue (mem : List Host.Cell) (a : Nat) : Nat → Nat
  | 0 => 0
  | n + 1 => (Memory.read mem a).toNat * 256 ^ n + bigValue mem (a + 1) n

/-- The number n bytes stand for in the byte order given. -/
def bytesValue (big : Bool) (mem : List Host.Cell) (a n : Nat) : Nat :=
  if big then bigValue mem a n else littleValue mem a n

/-- A loaded number of n bytes as a register value: sign-extended or zero-extended. -/
def extended (c : Config) (signed : Bool) (n v : Nat) : Word :=
  ofXlen c (if signed then Int.bmod v (2 ^ (8 * n)) else v)

/-- What an endianness bit reads after `b` has been written to it (11_csr_machine R121). -/
def endianBit (e : EndianBit) (b : Bool) : Bool :=
  match e with
  | .zero => false
  | .one => true
  | .writable => b

/-! ### What an instruction leaves as it was -/

/-- Every register reads as before. -/
def sameRegs (s t : State) : Prop := ∀ r, rX t r = rX s r

/-- Every register but rd reads as before, and rd reads `v`; nothing is written if rd is x0 (10_state R51). -/
def wroteReg (s t : State) (rd : Reg) (v : Word) : Prop := ∀ r, rX t r = if r = rd ∧ rd ≠ 0 then v else rX s r

/-- Every byte of memory reads as before. -/
def sameBytes (s t : State) : Prop := ∀ a, Memory.read t.mem a = Memory.read s.mem a

/-- Every byte of memory but the n bytes from `a` up reads as before. -/
def sameBytesOutside (s t : State) (a n : Nat) : Prop :=
  ∀ b, b < a ∨ a + n ≤ b → Memory.read t.mem b = Memory.read s.mem b

/-- The instruction retired and control went to `pc`: minstret counts it unless it is inhibited (11_csr_machine R142, R146). -/
def wentTo (s t : State) (pc : Word) : Prop :=
  t.pc = pc ∧ t.m.minstret = if inhibited s 2 then s.m.minstret else s.m.minstret + 1

/-- All state but the registers, pc, minstret and memory is as it was: the mode, every other CSR, the exception registers,
the reservation, the platform, the caches, and what fetches may still see. `draws`, the model's own counter, is left out. -/
def sameRest (s t : State) : Prop :=
  t = { s with regs := t.regs, pc := t.pc, m := { s.m with minstret := t.m.minstret }, mem := t.mem, draws := t.draws }

/-- Fetches may see, besides the old words they could see before, of the aligned words that the n bytes from `a` up touch
those that were in memory (20_memory R385). -/
def staleOnly (s t : State) (a n : Nat) : Prop :=
  (∀ e ∈ s.istale, e ∈ t.istale) ∧
  ∀ e ∈ t.istale, e ∈ s.istale ∨ (e.1 % 4 = 0 ∧ e.1 < a + n ∧ a < e.1 + 4 ∧ e.2 = Memory.inst s.mem e.1)

/-- What a store of the n bytes from `a` up leaves as it was: all that `sameRest` names but those old words. -/
def sameRestStore (s t : State) (a n : Nat) : Prop := sameRest s { t with istale := s.istale } ∧ staleOnly s t a n

/-- The instruction wrote rd, went to `pc`, and did nothing else. -/
def onlyReg (s t : State) (rd : Reg) (v pc : Word) : Prop :=
  wroteReg s t rd v ∧ wentTo s t pc ∧ sameBytes s t ∧ sameRest s t

/-- `exec i s` completes with rd as the only register written. -/
def yields (i : Instr) (s : State) (rd : Reg) (v : Word) : Prop :=
  ∃ t, exec i s = .next t ∧ onlyReg s t rd v (ofXlen s.cfg (s.pc.toNat + 4))

/-- `exec i s` completes and does no more than go on at the next instruction. -/
def onlyRetires (i : Instr) (s : State) : Prop :=
  ∃ t, exec i s = .next t ∧ sameRegs s t ∧ wentTo s t (ofXlen s.cfg (s.pc.toNat + 4)) ∧ sameBytes s t ∧ sameRest s t

/-- `exec i s` takes the exception `e`. -/
def traps (i : Instr) (s : State) (e : Exc) : Prop := exec i s = .next (raise s (encode i) e)

/-! ### Memory an instruction may use at once -/

/-- The n bytes at an effective address are main memory that a plain access of this use reaches in M-mode: aligned, allowed
by the attributes and by the PMP, and the PMP settings are synchronised (20_memory R340, 21_pmp R413, R418). -/
structure Reachable (s : State) (u : PmaUse) (ea n : Nat) : Prop where
  machine : s.priv = .M
  notVirtual : s.virt = false
  noMprv : mstatusBit s MPRV = false
  aligned : ea % n = 0
  attributes : pmaAllows s.cfg .pma ea n n u = true
  mainMemory : isIo s.cfg ea n = false
  protection : pmpCheck s.cfg s.pmp ea n (useAcc u) .M = true
  synchronised : s.pmpStale = []

/-- The same for HLV, HLVX and HSV in M-mode under Bare translation at both stages, at the privilege hstatus.SPVP names
(48_hypervisor R782). -/
structure GuestReachable (s : State) (u : PmaUse) (ea n : Nat) : Prop where
  machine : s.priv = .M
  notVirtual : s.virt = false
  vsBare : atpMode s.cfg (vsatpRead s) = 0
  gBare : atpMode s.cfg (hgatpRead s) = 0
  aligned : ea % n = 0
  attributes : pmaAllows s.cfg .pma ea n n u = true
  mainMemory : isIo s.cfg ea n = false
  protection : pmpCheck s.cfg s.pmp ea n (useAcc u) (effMode s .guest).1 = true
  synchronised : s.pmpStaleG = []

/-- The n bytes of memory from `a` up are those of the number `v` in the byte order given, and every other byte is as it
was. -/
def stored (s t : State) (big : Bool) (a n v : Nat) : Prop :=
  bytesValue big t.mem a n = v % 256 ^ n ∧ sameBytesOutside s t a n

/-! ### What a fence does to the translation cache (22_translation R471) -/

/-- The entry may satisfy the read of the table entry at `q` by the walk `w`, as R470 says; fences apart. -/
def matchesWalk (e : TcEntry) (w : Walk) (q : Nat) : Prop :=
  e.stage = w.stage ∧ e.pteAddr = q ∧ (w.stage = .g ∨ e.asid = w.asid ∨ e.global = true) ∧
  (w.stage = .single ∨ e.vmid = w.vmid)

/-- A fence over the entries `sel`, for one address or (none) all of them: no walk is served a value it was not served
before; the entries not selected stay; where the fence names every address, or the walk's page with a value that may be a
leaf, only an entry not selected still serves; and of the entries that may be leaves only ones not selected are left of those
used to translate the address (46_privileged R750). -/
structure Fenced (s t : State) (sel : TcEntry → Prop) (addr : Option Nat) : Prop where
  gains : ∀ w q i v, v ∈ tcValues t w q i → v ∈ tcValues s w q i
  keeps : ∀ e ∈ s.tc, ¬ sel e → e ∈ t.tc
  gone : ∀ w q i v, v ∈ tcValues t w q i →
    (∀ a, addr = some a → a / 2 ^ (12 + w.vpnBits * i) = w.addr / 2 ^ (12 + w.vpnBits * i) ∧ pteMayBeLeaf v = true) →
    ∃ e ∈ t.tc, ¬ sel e ∧ e.pte = v ∧ matchesWalk e w q
  removed : ∀ a, addr = some a → ∀ e ∈ t.tc, pteMayBeLeaf e.pte = true → (∃ p ∈ e.used, a / 2 ^ p.1 = p.2) → ¬ sel e

/-- The address in a fence's register, if the register is not x0. -/
def namedAddr (s : State) (rs1 : Reg) (scale : Nat) : Option Nat := if rs1 = 0 then none else some (scale * uReg s rs1)

/-! ### Eventual success of constrained LR/SC loops (45_a R710, 20_memory R354): what a run owes, over `Config.scFails` -/

/-- An infinite run. -/
def isRun (run : Nat → State) : Prop := ∀ k, step (run k) = .next (run (k + 1))

/-- The step at `s` executes `i`, and no trap is taken. -/
def stepExecutes (s : State) (i : Instr) : Prop :=
  boundaryTrap (consume s) = none ∧ (wake (consume s)).1 = true ∧
  ∃ (w : Inst) (t u : State), fetch (wake (consume s)).2 = .ok w t ∧ decode w = some i ∧ exec i t = .next u ∧
    ∀ e v, v.pc = t.pc → v.priv = t.priv → v.virt = t.virt → u ≠ raise v (encode i) e

/-- An LR or SC of `n` bytes and its address register. -/
def isLr (i : Instr) (n : Nat) (rs1 : Reg) : Prop :=
  ∃ aq rl rd, (i = .lrW aq rl rd rs1 ∧ n = 4) ∨ (i = .lrD aq rl rd rs1 ∧ n = 8)

def isSc (i : Instr) (n : Nat) (rs1 rs2 : Reg) : Prop :=
  ∃ aq rl rd, (i = .scW aq rl rd rs1 rs2 ∧ n = 4) ∨ (i = .scD aq rl rd rs1 rs2 ∧ n = 8)

/-- The base instructions a constrained loop may hold besides: no load, store, JALR, FENCE or SYSTEM instruction. NTL is an
ADD (42_zifencei_hints R656). -/
def plainBase : Instr → Bool
  | .lui _ _ | .auipc _ _ | .addi _ _ _ | .slti _ _ _ | .sltiu _ _ _ | .xori _ _ _ | .ori _ _ _ | .andi _ _ _
  | .slli _ _ _ | .srli _ _ _ | .srai _ _ _ | .add _ _ _ | .sub _ _ _ | .sll _ _ _ | .slt _ _ _ | .sltu _ _ _
  | .xor _ _ _ | .srl _ _ _ | .sra _ _ _ | .or _ _ _ | .and _ _ _ | .addiw _ _ _ | .slliw _ _ _ | .srliw _ _ _
  | .sraiw _ _ _ | .addw _ _ _ | .subw _ _ _ | .sllw _ _ _ | .srlw _ _ _ | .sraw _ _ _ | .jal _ _ | .beq _ _ _
  | .bne _ _ _ | .blt _ _ _ | .bge _ _ _ | .bltu _ _ _ | .bgeu _ _ _ | .nop | .ntlP1 | .ntlPall | .ntlS1 | .ntlAll => true
  | _ => false

/-- Step `j` of the run executes an LR and step `l` the SC to the same effective address and of the same size; between them
control only moves forward, over plain base instructions. -/
def LrScSequence (run : Nat → State) (j l : Nat) : Prop :=
  j < l ∧
  (∃ m i rs1 i' rs1' rs2, stepExecutes (run j) i ∧ isLr i m rs1 ∧ stepExecutes (run l) i' ∧ isSc i' m rs1' rs2 ∧
    rX (run l) rs1' = rX (run j) rs1) ∧
  (∀ q, j ≤ q → q < l → (run q).pc.toNat < (run (q + 1)).pc.toNat) ∧
  ∀ q, j < q → q < l → ∃ i, stepExecutes (run q) i ∧ plainBase i = true

/-- From its LR at step `k` on the run stays in the constrained loop of at most 16 instructions, never trapping: one LR, which
reserves memory with the eventuality property, one SC at `sc`, and plain base instructions, the LR lying first. Every LR
begins, and every SC ends, a sequence of the two; control moves forward or back to the LR (R710, 70_reset_and_hazards R947
(c)); and it executes the LR again and again. -/
structure StaysInLoop (run : Nat → State) (k n : Nat) (sc : Word) : Prop where
  short : n ≤ 16
  inside : ∀ j, k ≤ j → (run k).pc.toNat ≤ (run j).pc.toNat ∧ (run j).pc.toNat < (run k).pc.toNat + 4 * n
  begins : ∃ l, LrScSequence run k l
  body : ∀ j, k ≤ j → ∃ i, stepExecutes (run j) i ∧
    (plainBase i = true ∨
      (∃ m rs1, isLr i m rs1 ∧ (run j).pc = (run k).pc ∧ (∃ l, LrScSequence run j l) ∧ ∃ v, (run (j + 1)).resv = some v ∧
        (regionOf (run j).cfg v.addr m).any (·.rsrv == .eventual) = true) ∨
      ∃ m rs1 rs2, isSc i m rs1 rs2 ∧ (run j).pc = sc ∧ ∃ p, k ≤ p ∧ LrScSequence run p j)
  retries : ∀ j, k ≤ j → (run j).pc.toNat < (run (j + 1)).pc.toNat ∨ (run (j + 1)).pc = (run k).pc
  again : ∀ j, k ≤ j → ∃ l l', j ≤ l ∧ LrScSequence run l l'

/-- The step at `s` executes an SC that succeeds. -/
def scSucceeds (s : State) : Prop :=
  ∃ i m rs1 rs2 w t u, isSc i m rs1 rs2 ∧ stepExecutes s i ∧ fetch (wake (consume s)).2 = .ok w t ∧
    storeConditional t (rX t rs1) m (rX t rs2) = .ok 0 u

/-- Step `j` begins with another agent's write to the reservation set of an LR that the run executes at step `k` or later,
whether or not the hart holds the reservation then. -/
def setWritten (run : Nat → State) (k j : Nat) : Prop :=
  ∃ p i m rs1 v e, k ≤ p ∧ stepExecutes (run p) i ∧ isLr i m rs1 ∧ (run (p + 1)).resv = some v ∧
    (run j).inputs.head? = some e ∧
    (hartAddrs (run j).cfg e ++ deviceAddrs e).any (inReservationSet (run j).cfg v) = true

/-- R710's guarantee for this hart: a run does not stay in a constrained loop for ever unless, time and again, its SC
succeeds or another agent writes the reservation set. An unfair choice of spurious failures has no such run. -/
def EventualSuccess (run : Nat → State) : Prop :=
  ∀ k n sc, StaysInLoop run k n sc → ∃ j, k ≤ j ∧ (scSucceeds (run j) ∨ setWritten run k j)

end Sys2Proof.Machine
end

