-- ==== Sys2Proof/Certificates/Slice0/Obligations.lean ====
section
/-! DEFINITION. The statements: what the instructions and the machine do, from the rules of spec/. -/

open Sys2Proof Sys2Proof.Machine

/-- The instructions with an immediate (R552 to R562) at both widths, as integers modulo 2^XLEN: a left shift multiplies, a
right shift divides rounding down. With their frame. -/
def Obligations.ImmediateInstructions : Prop :=
  ∀ (s : State) (rd rs1 : Reg) (imm : BitVec 12) (top : BitVec 20) (shamt : BitVec 6),
  ((Instr.addi rd rs1 imm).available s.cfg = true → yields (.addi rd rs1 imm) s rd
    (ofXlen s.cfg (uReg s rs1 + imm.toInt))) ∧
  ((Instr.slti rd rs1 imm).available s.cfg = true → yields (.slti rd rs1 imm) s rd
    (flag (sReg s rs1 < imm.toInt))) ∧
  ((Instr.sltiu rd rs1 imm).available s.cfg = true → yields (.sltiu rd rs1 imm) s rd
    (flag (uReg s rs1 < (imm.toInt % 2 ^ s.cfg.xlen).toNat))) ∧
  ((Instr.lui rd top).available s.cfg = true → yields (.lui rd top) s rd
    (ofXlen s.cfg (top.toInt * 2 ^ 12))) ∧
  ((Instr.auipc rd top).available s.cfg = true → yields (.auipc rd top) s rd
    (ofXlen s.cfg (s.pc.toNat + top.toInt * 2 ^ 12))) ∧
  ((Instr.xori rd rs1 imm).available s.cfg = true → yields (.xori rd rs1 imm) s rd
    (ofXlen s.cfg (uReg s rs1 ^^^ (imm.toInt % 2 ^ s.cfg.xlen).toNat : Nat))) ∧
  ((Instr.ori rd rs1 imm).available s.cfg = true → yields (.ori rd rs1 imm) s rd
    (ofXlen s.cfg (uReg s rs1 ||| (imm.toInt % 2 ^ s.cfg.xlen).toNat : Nat))) ∧
  ((Instr.andi rd rs1 imm).available s.cfg = true → yields (.andi rd rs1 imm) s rd
    (ofXlen s.cfg (uReg s rs1 &&& (imm.toInt % 2 ^ s.cfg.xlen).toNat : Nat))) ∧
  ((Instr.slli rd rs1 shamt).available s.cfg = true → yields (.slli rd rs1 shamt) s rd
    (ofXlen s.cfg (uReg s rs1 * 2 ^ shamt.toNat : Nat))) ∧
  ((Instr.srli rd rs1 shamt).available s.cfg = true → yields (.srli rd rs1 shamt) s rd
    (ofXlen s.cfg (uReg s rs1 / 2 ^ shamt.toNat : Nat))) ∧
  ((Instr.srai rd rs1 shamt).available s.cfg = true → yields (.srai rd rs1 shamt) s rd
    (ofXlen s.cfg (sReg s rs1 / 2 ^ shamt.toNat)))

/-- The instructions on registers (R563 to R572), with their frame. -/
def Obligations.RegisterInstructions : Prop :=
  ∀ (s : State) (rd rs1 rs2 : Reg),
  ((Instr.add rd rs1 rs2).available s.cfg = true → yields (.add rd rs1 rs2) s rd
    (ofXlen s.cfg (uReg s rs1 + uReg s rs2 : Nat))) ∧
  ((Instr.sub rd rs1 rs2).available s.cfg = true → yields (.sub rd rs1 rs2) s rd
    (ofXlen s.cfg ((uReg s rs1 : Int) - uReg s rs2))) ∧
  ((Instr.slt rd rs1 rs2).available s.cfg = true → yields (.slt rd rs1 rs2) s rd
    (flag (sReg s rs1 < sReg s rs2))) ∧
  ((Instr.sltu rd rs1 rs2).available s.cfg = true → yields (.sltu rd rs1 rs2) s rd
    (flag (uReg s rs1 < uReg s rs2))) ∧
  ((Instr.xor rd rs1 rs2).available s.cfg = true → yields (.xor rd rs1 rs2) s rd
    (ofXlen s.cfg (uReg s rs1 ^^^ uReg s rs2 : Nat))) ∧
  ((Instr.or rd rs1 rs2).available s.cfg = true → yields (.or rd rs1 rs2) s rd
    (ofXlen s.cfg (uReg s rs1 ||| uReg s rs2 : Nat))) ∧
  ((Instr.and rd rs1 rs2).available s.cfg = true → yields (.and rd rs1 rs2) s rd
    (ofXlen s.cfg (uReg s rs1 &&& uReg s rs2 : Nat))) ∧
  ((Instr.sll rd rs1 rs2).available s.cfg = true → yields (.sll rd rs1 rs2) s rd
    (ofXlen s.cfg (uReg s rs1 * 2 ^ (uReg s rs2 % s.cfg.xlen) : Nat))) ∧
  ((Instr.srl rd rs1 rs2).available s.cfg = true → yields (.srl rd rs1 rs2) s rd
    (ofXlen s.cfg (uReg s rs1 / 2 ^ (uReg s rs2 % s.cfg.xlen) : Nat))) ∧
  ((Instr.sra rd rs1 rs2).available s.cfg = true → yields (.sra rd rs1 rs2) s rd
    (ofXlen s.cfg (sReg s rs1 / 2 ^ (uReg s rs2 % s.cfg.xlen))))

/-- The word instructions (R621 to R630), with their frame. -/
def Obligations.WordInstructions : Prop :=
  ∀ (s : State) (rd rs1 rs2 : Reg) (imm : BitVec 12) (shamt : BitVec 5),
  ((Instr.addiw rd rs1 imm).available s.cfg = true → yields (.addiw rd rs1 imm) s rd
    (ofWord s.cfg (uReg s rs1 + imm.toInt))) ∧
  ((Instr.addw rd rs1 rs2).available s.cfg = true → yields (.addw rd rs1 rs2) s rd
    (ofWord s.cfg (uReg s rs1 + uReg s rs2 : Nat))) ∧
  ((Instr.subw rd rs1 rs2).available s.cfg = true → yields (.subw rd rs1 rs2) s rd
    (ofWord s.cfg ((uReg s rs1 : Int) - uReg s rs2))) ∧
  ((Instr.slliw rd rs1 shamt).available s.cfg = true → yields (.slliw rd rs1 shamt) s rd
    (ofWord s.cfg (uReg32 s rs1 * 2 ^ shamt.toNat : Nat))) ∧
  ((Instr.srliw rd rs1 shamt).available s.cfg = true → yields (.srliw rd rs1 shamt) s rd
    (ofWord s.cfg (uReg32 s rs1 / 2 ^ shamt.toNat : Nat))) ∧
  ((Instr.sraiw rd rs1 shamt).available s.cfg = true → yields (.sraiw rd rs1 shamt) s rd
    (ofWord s.cfg (sReg32 s rs1 / 2 ^ shamt.toNat))) ∧
  ((Instr.sllw rd rs1 rs2).available s.cfg = true → yields (.sllw rd rs1 rs2) s rd
    (ofWord s.cfg (uReg32 s rs1 * 2 ^ (uReg s rs2 % 32) : Nat))) ∧
  ((Instr.srlw rd rs1 rs2).available s.cfg = true → yields (.srlw rd rs1 rs2) s rd
    (ofWord s.cfg (uReg32 s rs1 / 2 ^ (uReg s rs2 % 32) : Nat))) ∧
  ((Instr.sraw rd rs1 rs2).available s.cfg = true → yields (.sraw rd rs1 rs2) s rd
    (ofWord s.cfg (sReg32 s rs1 / 2 ^ (uReg s rs2 % 32))))

/-- The multiplications (R682 to R686) as halves of the exact integer product. -/
def Obligations.Multiplication : Prop :=
  ∀ (s : State) (rd rs1 rs2 : Reg),
  ((Instr.mul rd rs1 rs2).available s.cfg = true → yields (.mul rd rs1 rs2) s rd
    (ofXlen s.cfg (uReg s rs1 * uReg s rs2 : Nat))) ∧
  ((Instr.mulh rd rs1 rs2).available s.cfg = true → yields (.mulh rd rs1 rs2) s rd
    (ofXlen s.cfg (sReg s rs1 * sReg s rs2 / 2 ^ s.cfg.xlen))) ∧
  ((Instr.mulhsu rd rs1 rs2).available s.cfg = true → yields (.mulhsu rd rs1 rs2) s rd
    (ofXlen s.cfg (sReg s rs1 * uReg s rs2 / 2 ^ s.cfg.xlen))) ∧
  ((Instr.mulhu rd rs1 rs2).available s.cfg = true → yields (.mulhu rd rs1 rs2) s rd
    (ofXlen s.cfg (uReg s rs1 * uReg s rs2 / 2 ^ s.cfg.xlen : Nat))) ∧
  ((Instr.mulw rd rs1 rs2).available s.cfg = true → yields (.mulw rd rs1 rs2) s rd
    (ofWord s.cfg (uReg s rs1 * uReg s rs2 : Nat)))

/-- The divisions (R688 to R696). The overflow row of Table 9.1 is the truncated quotient and remainder modulo 2^XLEN or 2^32. -/
def Obligations.DivisionInstructions : Prop :=
  ∀ (s : State) (rd rs1 rs2 : Reg),
  ((Instr.div rd rs1 rs2).available s.cfg = true → yields (.div rd rs1 rs2) s rd
    (ofXlen s.cfg (if sReg s rs2 = 0 then -1 else Int.tdiv (sReg s rs1) (sReg s rs2)))) ∧
  ((Instr.divu rd rs1 rs2).available s.cfg = true → yields (.divu rd rs1 rs2) s rd
    (ofXlen s.cfg (if uReg s rs2 = 0 then -1 else ((uReg s rs1 / uReg s rs2 : Nat) : Int)))) ∧
  ((Instr.rem rd rs1 rs2).available s.cfg = true → yields (.rem rd rs1 rs2) s rd
    (ofXlen s.cfg (if sReg s rs2 = 0 then sReg s rs1 else Int.tmod (sReg s rs1) (sReg s rs2)))) ∧
  ((Instr.remu rd rs1 rs2).available s.cfg = true → yields (.remu rd rs1 rs2) s rd
    (ofXlen s.cfg (uReg s rs1 % uReg s rs2 : Nat))) ∧
  ((Instr.divw rd rs1 rs2).available s.cfg = true → yields (.divw rd rs1 rs2) s rd
    (ofWord s.cfg (if sReg32 s rs2 = 0 then -1 else Int.tdiv (sReg32 s rs1) (sReg32 s rs2)))) ∧
  ((Instr.divuw rd rs1 rs2).available s.cfg = true → yields (.divuw rd rs1 rs2) s rd
    (ofWord s.cfg (if uReg32 s rs2 = 0 then -1 else ((uReg32 s rs1 / uReg32 s rs2 : Nat) : Int)))) ∧
  ((Instr.remw rd rs1 rs2).available s.cfg = true → yields (.remw rd rs1 rs2) s rd
    (ofWord s.cfg (if sReg32 s rs2 = 0 then sReg32 s rs1 else Int.tmod (sReg32 s rs1) (sReg32 s rs2)))) ∧
  ((Instr.remuw rd rs1 rs2).available s.cfg = true → yields (.remuw rd rs1 rs2) s rd
    (ofWord s.cfg (uReg32 s rs1 % uReg32 s rs2 : Nat)))

/-- R688, whole: the two rows of Table 9.1 and the identity of quotient and remainder. -/
def Obligations.DivisionCorners : Prop :=
  ∀ (s : State) (rd rs1 rs2 : Reg),
    let x := uReg s rs1
    let m : Nat := 2 ^ s.cfg.xlen
    let avail (i : Instr) := i.available s.cfg = true
    (uReg s rs2 = 0 →
      (avail (.divu rd rs1 rs2) → yields (.divu rd rs1 rs2) s rd (ofXlen s.cfg (m - 1))) ∧
      (avail (.remu rd rs1 rs2) → yields (.remu rd rs1 rs2) s rd (rX s rs1)) ∧
      (avail (.div rd rs1 rs2) → yields (.div rd rs1 rs2) s rd (ofXlen s.cfg (-1))) ∧
      (avail (.rem rd rs1 rs2) → yields (.rem rd rs1 rs2) s rd (rX s rs1))) ∧
    (uReg32 s rs2 = 0 →
      (avail (.divuw rd rs1 rs2) → yields (.divuw rd rs1 rs2) s rd (ofWord s.cfg (2 ^ 32 - 1))) ∧
      (avail (.remuw rd rs1 rs2) → yields (.remuw rd rs1 rs2) s rd (ofWord s.cfg x)) ∧
      (avail (.divw rd rs1 rs2) → yields (.divw rd rs1 rs2) s rd (ofWord s.cfg (-1))) ∧
      (avail (.remw rd rs1 rs2) → yields (.remw rd rs1 rs2) s rd (ofWord s.cfg x))) ∧
    (sReg s rs1 = -2 ^ (s.cfg.xlen - 1) → sReg s rs2 = -1 →
      (avail (.div rd rs1 rs2) → yields (.div rd rs1 rs2) s rd (rX s rs1)) ∧
      (avail (.rem rd rs1 rs2) → yields (.rem rd rs1 rs2) s rd 0)) ∧
    (sReg32 s rs1 = -2 ^ 31 → sReg32 s rs2 = -1 →
      (avail (.divw rd rs1 rs2) → yields (.divw rd rs1 rs2) s rd (ofWord s.cfg x)) ∧
      (avail (.remw rd rs1 rs2) → yields (.remw rd rs1 rs2) s rd 0)) ∧
    (∀ (a b : Word) (i j : Instr), a = rX s rs1 → b = rX s rs2 →
      ((i = .div rd rs1 rs2 ∧ j = .rem rd rs1 rs2) ∨ (i = .divu rd rs1 rs2 ∧ j = .remu rd rs1 rs2)) → avail i → rd ≠ 0 →
      ∃ t u, exec i s = .next t ∧ exec j s = .next u ∧
        (b.toNat * (rX t rd).toNat + (rX u rd).toNat) % m = a.toNat) ∧
    (∀ i j : Instr,
      ((i = .divw rd rs1 rs2 ∧ j = .remw rd rs1 rs2) ∨ (i = .divuw rd rs1 rs2 ∧ j = .remuw rd rs1 rs2)) → avail i → rd ≠ 0 →
      ∃ t u, exec i s = .next t ∧ exec j s = .next u ∧
        (uReg32 s rs2 * (rX t rd).toNat + (rX u rd).toNat) % 2 ^ 32 = uReg32 s rs1)

/-- JAL and JALR (R576, R577), the branches (R578, R579, R581 to R584), and their only exception (R580). -/
def Obligations.JumpsAndBranches : Prop :=
  (∀ (s : State) (rd rs1 : Reg) (off : BitVec 20) (imm : BitVec 12),
    let t1 := ofXlen s.cfg (s.pc.toNat + 2 * off.toInt)
    let t2 := ofXlen s.cfg ((uReg s rs1 + imm.toInt) / 2 * 2)
    let link := ofXlen s.cfg (s.pc.toNat + 4)
    ((Instr.jal rd off).available s.cfg = true →
      (t1.toNat % 4 = 0 → ∃ t, exec (.jal rd off) s = .next t ∧ onlyReg s t rd link t1) ∧
      (t1.toNat % 4 ≠ 0 → traps (.jal rd off) s (instrExc 0 t1 s.virt))) ∧
    ((Instr.jalr rd rs1 imm).available s.cfg = true →
      (t2.toNat % 4 = 0 → ∃ t, exec (.jalr rd rs1 imm) s = .next t ∧ onlyReg s t rd link t2) ∧
      (t2.toNat % 4 ≠ 0 → traps (.jalr rd rs1 imm) s (instrExc 0 t2 s.virt)))) ∧
  (∀ (s : State) (rs1 rs2 : Reg) (off : BitVec 12) (i : Instr) (taken : Prop),
    ((i = .beq rs1 rs2 off ∧ (taken ↔ rX s rs1 = rX s rs2)) ∨
      (i = .bne rs1 rs2 off ∧ (taken ↔ rX s rs1 ≠ rX s rs2)) ∨
      (i = .blt rs1 rs2 off ∧ (taken ↔ sReg s rs1 < sReg s rs2)) ∨
      (i = .bge rs1 rs2 off ∧ (taken ↔ sReg s rs2 ≤ sReg s rs1)) ∨
      (i = .bltu rs1 rs2 off ∧ (taken ↔ uReg s rs1 < uReg s rs2)) ∨
      (i = .bgeu rs1 rs2 off ∧ (taken ↔ uReg s rs2 ≤ uReg s rs1))) →
    i.available s.cfg = true →
    let target := ofXlen s.cfg (s.pc.toNat + 2 * off.toInt)
    (¬ taken → onlyRetires i s) ∧
    (taken → target.toNat % 4 = 0 →
      ∃ t, exec i s = .next t ∧ sameRegs s t ∧ wentTo s t target ∧ sameBytes s t ∧ sameRest s t) ∧
    (taken → target.toNat % 4 ≠ 0 → traps i s (instrExc 0 target s.virt)))

/-- The loads (R590 to R595, R631, R632) in M-mode; the byte order is mstatus.MBE. -/
def Obligations.LoadsComplete : Prop :=
  ∀ (s : State) (rd rs1 : Reg) (imm : BitVec 12) (i : Instr) (n : Nat) (signed : Bool),
    ((i = .lb rd rs1 imm ∧ n = 1 ∧ signed = true) ∨
      (i = .lh rd rs1 imm ∧ n = 2 ∧ signed = true) ∨
      (i = .lw rd rs1 imm ∧ n = 4 ∧ signed = true) ∨
      (i = .lbu rd rs1 imm ∧ n = 1 ∧ signed = false) ∨
      (i = .lhu rd rs1 imm ∧ n = 2 ∧ signed = false) ∨
      (i = .ld rd rs1 imm ∧ n = 8 ∧ signed = true) ∨
      (i = .lwu rd rs1 imm ∧ n = 4 ∧ signed = false)) →
    i.available s.cfg = true → Reachable s .load (effAddr s rs1 imm).toNat n →
    yields i s rd (extended s.cfg signed n (bytesValue (mstatusBit s MBE) s.mem (effAddr s rs1 imm).toNat n))

/-- Loads and stores under translation, MPRV and misalignment: whatever `access` grants (R340) completes, loads also with rd = x0
(R599); the address stored to is the one `access` grants. At an I/O address that is no register of the spec a load gives some
number of its width, of which nothing is said, and a store changes no byte; that it completes so is R340's frame and the
model's choice (R359; entry 13). That memory is canonical is an invariant. -/
def Obligations.AccessesInAnyMode : Prop :=
  (∀ (s s1 : State) (rd rs1 : Reg) (imm : BitVec 12) (i : Instr) (n : Nat) (signed : Bool) (parts : List (Nat × Nat)),
    ((i = .lb rd rs1 imm ∧ n = 1 ∧ signed = true) ∨
      (i = .lh rd rs1 imm ∧ n = 2 ∧ signed = true) ∨
      (i = .lw rd rs1 imm ∧ n = 4 ∧ signed = true) ∨
      (i = .lbu rd rs1 imm ∧ n = 1 ∧ signed = false) ∨
      (i = .lhu rd rs1 imm ∧ n = 2 ∧ signed = false) ∨
      (i = .ld rd rs1 imm ∧ n = 8 ∧ signed = true) ∨
      (i = .lwu rd rs1 imm ∧ n = 4 ∧ signed = false)) →
    i.available s.cfg = true → access s .plain .load (effAddr s rs1 imm) n = .ok parts s1 →
    (∀ p ∈ parts, isIo s1.cfg p.1 p.2 = false) →
    ∃ t, exec i s = .next t ∧
      wroteReg s1 t rd (wrap s.cfg ((if signed then sextBytes n else id) (ofBytes (orderBytes (viaBig s .plain)
        (parts.flatMap fun p => Memory.readBytes s1.mem p.1 p.2))))) ∧
      wentTo s1 t (nextPc s1) ∧ sameBytes s1 t ∧ sameRest s1 t) ∧
  (∀ (s s1 : State) (rd rs1 : Reg) (imm : BitVec 12) (i : Instr) (n : Nat) (signed : Bool) (parts : List (Nat × Nat)),
    ((i = .lb rd rs1 imm ∧ n = 1 ∧ signed = true) ∨
      (i = .lh rd rs1 imm ∧ n = 2 ∧ signed = true) ∨
      (i = .lw rd rs1 imm ∧ n = 4 ∧ signed = true) ∨
      (i = .lbu rd rs1 imm ∧ n = 1 ∧ signed = false) ∨
      (i = .lhu rd rs1 imm ∧ n = 2 ∧ signed = false) ∨
      (i = .ld rd rs1 imm ∧ n = 8 ∧ signed = true) ∨
      (i = .lwu rd rs1 imm ∧ n = 4 ∧ signed = false)) →
    i.available s.cfg = true → access s .plain .load (effAddr s rs1 imm) n = .ok parts s1 →
    (∃ p ∈ parts, isIo s1.cfg p.1 p.2 = true ∧ deviceAt s1.cfg p.1 p.2 = none) →
    ∃ t x, exec i s = .next t ∧ x < 256 ^ n ∧ wroteReg s1 t rd (extended s.cfg signed n x) ∧
      wentTo s1 t (nextPc s1) ∧ sameBytes s1 t ∧ sameRest s1 t) ∧
  (∀ (s s1 : State) (rs1 rs2 : Reg) (imm : BitVec 12) (i : Instr) (n a : Nat),
    ((i = .sb rs1 rs2 imm ∧ n = 1) ∨ (i = .sh rs1 rs2 imm ∧ n = 2) ∨ (i = .sw rs1 rs2 imm ∧ n = 4) ∨
      (i = .sd rs1 rs2 imm ∧ n = 8)) →
    i.available s.cfg = true → access s .plain .store (effAddr s rs1 imm) n = .ok [(a, n)] s1 →
    isIo s1.cfg a n = true → deviceAt s1.cfg a n = none →
    ∃ t, exec i s = .next t ∧ sameRegs s1 t ∧ wentTo s1 t (nextPc s1) ∧ sameBytes s1 t ∧ sameRest s1 t) ∧
  (∀ (s s1 : State) (rs1 rs2 : Reg) (imm : BitVec 12) (i : Instr) (n a : Nat),
    ((i = .sb rs1 rs2 imm ∧ n = 1) ∨ (i = .sh rs1 rs2 imm ∧ n = 2) ∨ (i = .sw rs1 rs2 imm ∧ n = 4) ∨
      (i = .sd rs1 rs2 imm ∧ n = 8)) →
    i.available s.cfg = true → Memory.wf s.mem = true →
    (access s .plain .store (effAddr s rs1 imm) n = .ok [(a, n)] s1 → isIo s1.cfg a n = false →
      ∃ t, exec i s = .next t ∧ stored s1 t (viaBig s .plain) a n (uReg s rs2) ∧
        sameRegs s1 t ∧ wentTo s1 t (nextPc s1) ∧ sameRestStore s1 t a n) ∧
    (∀ m b k, access s .plain .store (effAddr s rs1 imm) n = .ok [(a, m), (b, k)] s1 →
      isIo s1.cfg a m = false → isIo s1.cfg b k = false →
      let bs := orderBytes (viaBig s .plain) (bytesOf n (rX s rs2))
      ∃ t, exec i s = .next t ∧
        (∀ x, Memory.read t.mem x = if b ≤ x ∧ x < b + k then bs.getD (m + (x - b)) 0
          else if a ≤ x ∧ x < a + m then bs.getD (x - a) 0 else Memory.read s1.mem x) ∧
        (∀ e ∈ s1.istale, e ∈ t.istale) ∧
        (∀ e ∈ t.istale, e ∈ s1.istale ∨ (e.1 % 4 = 0 ∧
          ((e.1 < a + m ∧ a < e.1 + 4) ∨ (e.1 < b + k ∧ b < e.1 + 4)) ∧ e.2 = Memory.inst s1.mem e.1)) ∧
        sameRegs s1 t ∧ wentTo s1 t (nextPc s1) ∧ sameRest s1 { t with istale := s1.istale }))

/-- The stores (R590, R596 to R598, R633) in M-mode; the address stored to is the effective address.
That memory is canonical is an invariant (`StepKeepsTheInvariant`). -/
def Obligations.StoresComplete : Prop :=
  ∀ (s : State) (rs1 rs2 : Reg) (imm : BitVec 12) (i : Instr) (n : Nat),
    ((i = .sb rs1 rs2 imm ∧ n = 1) ∨ (i = .sh rs1 rs2 imm ∧ n = 2) ∨ (i = .sw rs1 rs2 imm ∧ n = 4) ∨ (i = .sd rs1 rs2 imm ∧ n = 8)) →
    i.available s.cfg = true → Memory.wf s.mem = true → Reachable s .store (effAddr s rs1 imm).toNat n →
    ∃ t, exec i s = .next t ∧ stored s t (mstatusBit s MBE) (effAddr s rs1 imm).toNat n (uReg s rs2) ∧
      sameRegs s t ∧ wentTo s t (ofXlen s.cfg (s.pc.toNat + 4)) ∧ sameRestStore s t (effAddr s rs1 imm).toNat n

/-- Alignment (R344, R345, R600, R713, R827). That a misaligned LR, SC or AMO takes the access fault where MISALIGNED is
supported is read from R345 by the model (entry 24), and the rank of the access fault is the model's choice (entry 42). -/
def Obligations.MisalignedAccessesTrap : Prop :=
  ∀ (s : State) (rd rs1 rs2 : Reg) (imm : BitVec 12) (aq rl : Bool) (i : Instr) (n cause : Nat) (store atomic guest : Bool)
    (ea : Word),
    ((i = .lh rd rs1 imm ∧ n = 2 ∧ store = false ∧ atomic = false ∧ guest = false ∧ ea = effAddr s rs1 imm) ∨
      (i = .lw rd rs1 imm ∧ n = 4 ∧ store = false ∧ atomic = false ∧ guest = false ∧ ea = effAddr s rs1 imm) ∨
      (i = .ld rd rs1 imm ∧ n = 8 ∧ store = false ∧ atomic = false ∧ guest = false ∧ ea = effAddr s rs1 imm) ∨
      (i = .lhu rd rs1 imm ∧ n = 2 ∧ store = false ∧ atomic = false ∧ guest = false ∧ ea = effAddr s rs1 imm) ∨
      (i = .lwu rd rs1 imm ∧ n = 4 ∧ store = false ∧ atomic = false ∧ guest = false ∧ ea = effAddr s rs1 imm) ∨
      (i = .sh rs1 rs2 imm ∧ n = 2 ∧ store = true ∧ atomic = false ∧ guest = false ∧ ea = effAddr s rs1 imm) ∨
      (i = .sw rs1 rs2 imm ∧ n = 4 ∧ store = true ∧ atomic = false ∧ guest = false ∧ ea = effAddr s rs1 imm) ∨
      (i = .sd rs1 rs2 imm ∧ n = 8 ∧ store = true ∧ atomic = false ∧ guest = false ∧ ea = effAddr s rs1 imm) ∨
      (i = .lrW aq rl rd rs1 ∧ n = 4 ∧ store = false ∧ atomic = true ∧ guest = false ∧ ea = rX s rs1) ∨
      (i = .scW aq rl rd rs1 rs2 ∧ n = 4 ∧ store = true ∧ atomic = true ∧ guest = false ∧ ea = rX s rs1) ∨
      (i = .amoswapW aq rl rd rs1 rs2 ∧ n = 4 ∧ store = true ∧ atomic = true ∧ guest = false ∧ ea = rX s rs1) ∨
      (i = .amoaddW aq rl rd rs1 rs2 ∧ n = 4 ∧ store = true ∧ atomic = true ∧ guest = false ∧ ea = rX s rs1) ∨
      (i = .amoxorW aq rl rd rs1 rs2 ∧ n = 4 ∧ store = true ∧ atomic = true ∧ guest = false ∧ ea = rX s rs1) ∨
      (i = .amoandW aq rl rd rs1 rs2 ∧ n = 4 ∧ store = true ∧ atomic = true ∧ guest = false ∧ ea = rX s rs1) ∨
      (i = .amoorW aq rl rd rs1 rs2 ∧ n = 4 ∧ store = true ∧ atomic = true ∧ guest = false ∧ ea = rX s rs1) ∨
      (i = .amominW aq rl rd rs1 rs2 ∧ n = 4 ∧ store = true ∧ atomic = true ∧ guest = false ∧ ea = rX s rs1) ∨
      (i = .amomaxW aq rl rd rs1 rs2 ∧ n = 4 ∧ store = true ∧ atomic = true ∧ guest = false ∧ ea = rX s rs1) ∨
      (i = .amominuW aq rl rd rs1 rs2 ∧ n = 4 ∧ store = true ∧ atomic = true ∧ guest = false ∧ ea = rX s rs1) ∨
      (i = .amomaxuW aq rl rd rs1 rs2 ∧ n = 4 ∧ store = true ∧ atomic = true ∧ guest = false ∧ ea = rX s rs1) ∨
      (i = .lrD aq rl rd rs1 ∧ n = 8 ∧ store = false ∧ atomic = true ∧ guest = false ∧ ea = rX s rs1) ∨
      (i = .scD aq rl rd rs1 rs2 ∧ n = 8 ∧ store = true ∧ atomic = true ∧ guest = false ∧ ea = rX s rs1) ∨
      (i = .amoswapD aq rl rd rs1 rs2 ∧ n = 8 ∧ store = true ∧ atomic = true ∧ guest = false ∧ ea = rX s rs1) ∨
      (i = .amoaddD aq rl rd rs1 rs2 ∧ n = 8 ∧ store = true ∧ atomic = true ∧ guest = false ∧ ea = rX s rs1) ∨
      (i = .amoxorD aq rl rd rs1 rs2 ∧ n = 8 ∧ store = true ∧ atomic = true ∧ guest = false ∧ ea = rX s rs1) ∨
      (i = .amoandD aq rl rd rs1 rs2 ∧ n = 8 ∧ store = true ∧ atomic = true ∧ guest = false ∧ ea = rX s rs1) ∨
      (i = .amoorD aq rl rd rs1 rs2 ∧ n = 8 ∧ store = true ∧ atomic = true ∧ guest = false ∧ ea = rX s rs1) ∨
      (i = .amominD aq rl rd rs1 rs2 ∧ n = 8 ∧ store = true ∧ atomic = true ∧ guest = false ∧ ea = rX s rs1) ∨
      (i = .amomaxD aq rl rd rs1 rs2 ∧ n = 8 ∧ store = true ∧ atomic = true ∧ guest = false ∧ ea = rX s rs1) ∨
      (i = .amominuD aq rl rd rs1 rs2 ∧ n = 8 ∧ store = true ∧ atomic = true ∧ guest = false ∧ ea = rX s rs1) ∨
      (i = .amomaxuD aq rl rd rs1 rs2 ∧ n = 8 ∧ store = true ∧ atomic = true ∧ guest = false ∧ ea = rX s rs1) ∨
      (i = .hlvH rd rs1 ∧ n = 2 ∧ store = false ∧ atomic = false ∧ guest = true ∧ ea = rX s rs1) ∨
      (i = .hlvHu rd rs1 ∧ n = 2 ∧ store = false ∧ atomic = false ∧ guest = true ∧ ea = rX s rs1) ∨
      (i = .hlvxHu rd rs1 ∧ n = 2 ∧ store = false ∧ atomic = false ∧ guest = true ∧ ea = rX s rs1) ∨
      (i = .hlvW rd rs1 ∧ n = 4 ∧ store = false ∧ atomic = false ∧ guest = true ∧ ea = rX s rs1) ∨
      (i = .hlvWu rd rs1 ∧ n = 4 ∧ store = false ∧ atomic = false ∧ guest = true ∧ ea = rX s rs1) ∨
      (i = .hlvxWu rd rs1 ∧ n = 4 ∧ store = false ∧ atomic = false ∧ guest = true ∧ ea = rX s rs1) ∨
      (i = .hlvD rd rs1 ∧ n = 8 ∧ store = false ∧ atomic = false ∧ guest = true ∧ ea = rX s rs1) ∨
      (i = .hsvH rs1 rs2 ∧ n = 2 ∧ store = true ∧ atomic = false ∧ guest = true ∧ ea = rX s rs1) ∨
      (i = .hsvW rs1 rs2 ∧ n = 4 ∧ store = true ∧ atomic = false ∧ guest = true ∧ ea = rX s rs1) ∨
      (i = .hsvD rs1 rs2 ∧ n = 8 ∧ store = true ∧ atomic = false ∧ guest = true ∧ ea = rX s rs1)) →
    ((s.cfg.misaligned = .addressMisaligned ∧ cause = if store then 6 else 4) ∨
      ((s.cfg.misaligned = .accessFault ∨ (s.cfg.misaligned = .supported ∧ atomic = true)) ∧
        cause = if store then 7 else 5)) →
    i.available s.cfg = true → s.cfg.misalignedFirst = true → (guest = true → guestAccessDenied s = none) →
    ea.toNat % n ≠ 0 →
    traps i s { cause := cause, tval := ea, gva := guest || (dataMode s).2, gpa := 0, implicit := none, off := 0 }

/-- mtime and mtimecmp as memory-mapped registers (R852), whole and by halves; msip of every hart (R853). That another hart's
register is kept in `State.mem` is the model's choice (entry 17). -/
def Obligations.DeviceRegistersInMemory : Prop :=
  (∀ (s : State) (rd rs1 rs2 : Reg) (imm : BitVec 12) (cmp : Bool),
    s.cfg = Config.reference ∨ s.cfg = Config.reference32 → s.priv = .M → s.virt = false → mstatusBit s MPRV = false →
    mstatusBit s MBE = false → s.pmpStale = [] → (∀ i : Fin 64, pmpA (s.pmp.cfg.get i) = 0) →
    let base := if cmp then s.cfg.mtimecmpBase else s.cfg.mtimeBase
    let old := if cmp then s.plat.mtimecmp else s.plat.mtime
    let stores (i : Instr) (v : Nat) := ∃ t, exec i s = .next t ∧
      (if cmp then t.plat.mtimecmp else t.plat.mtime).toNat = v ∧
      t.plat = (if cmp then { s.plat with mtimecmp := t.plat.mtimecmp } else { s.plat with mtime := t.plat.mtime }) ∧
      sameRegs s t ∧ sameBytes s t ∧ wentTo s t (ofXlen s.cfg (s.pc.toNat + 4)) ∧ sameRest s { t with plat := s.plat }
    (s.cfg.rv64 = true → (effAddr s rs1 imm).toNat = base →
      yields (.ld rd rs1 imm) s rd old ∧ stores (.sd rs1 rs2 imm) (rX s rs2).toNat) ∧
    ((effAddr s rs1 imm).toNat = base →
      yields (.lw rd rs1 imm) s rd (extended s.cfg true 4 old.toNat) ∧
      stores (.sw rs1 rs2 imm) (old.toNat / 2 ^ 32 * 2 ^ 32 + (rX s rs2).toNat % 2 ^ 32)) ∧
    ((effAddr s rs1 imm).toNat = base + 4 →
      yields (.lw rd rs1 imm) s rd (extended s.cfg true 4 (old.toNat / 2 ^ 32)) ∧
      stores (.sw rs1 rs2 imm) (old.toNat % 2 ^ 32 + (rX s rs2).toNat % 2 ^ 32 * 2 ^ 32))) ∧
  (∀ (s : State) (rd rs1 rs2 : Reg) (imm : BitVec 12) (k h : Nat),
    s.cfg = { Config.reference with harts := k } → h < k → k ≤ 4095 → Memory.wf s.mem = true →
    s.priv = .M → s.virt = false → mstatusBit s MPRV = false → mstatusBit s MBE = false →
    s.pmpStale = [] → (∀ i : Fin 64, pmpA (s.pmp.cfg.get i) = 0) →
    (effAddr s rs1 imm).toNat = s.cfg.msipBase + 4 * h →
    yields (.lw rd rs1 imm) s rd (deviceValue s (.msip h)) ∧
    ∃ t, exec (.sw rs1 rs2 imm) s = .next t ∧ deviceValue t (.msip h) = rX s rs2 &&& 1 ∧
      (∀ g, g ≠ h → deviceValue t (.msip g) = deviceValue s (.msip g)) ∧
      (h = 0 → sameBytes s t ∧ t.plat = { s.plat with msip := (rX s rs2).getLsbD 0 }) ∧
      (h ≠ 0 → t.plat = s.plat ∧ sameBytesOutside s t (s.cfg.msipBase + 4 * h) 4) ∧
      sameRegs s t ∧ wentTo s t (ofXlen s.cfg (s.pc.toNat + 4)) ∧ sameRest s { t with plat := s.plat })

/-- R575, whole. -/
def Obligations.NopChangesNothing : Prop :=
  decode 0x00000013 = some .nop ∧
  ∀ s : State, Instr.nop.available s.cfg = true ∧ onlyRetires .nop s

/-- R606, R607, R653, R655 in one hart; R650, R652: FENCE.I leaves no stale word (`istale` is the one field it changes). -/
def Obligations.FencesAndHintsRetire : Prop :=
  (∀ (s : State) (fm pred succ : BitVec 4) (rs1 rd : Reg) (i : Instr),
    (i = .fence fm pred succ rs1 rd ∨ i = .fenceTso ∨ i = .pause ∨ i = .ntlP1 ∨ i = .ntlPall ∨ i = .ntlS1 ∨ i = .ntlAll) →
    i.available s.cfg = true → onlyRetires i s) ∧
  (∀ (s : State) (imm : BitVec 12) (rs1 rd : Reg), (Instr.fenceI imm rs1 rd).available s.cfg = true →
    ∃ t, exec (.fenceI imm rs1 rd) s = .next t ∧ sameRegs s t ∧ sameBytes s t ∧
      wentTo s t (ofXlen s.cfg (s.pc.toNat + 4)) ∧ sameRest s { t with istale := s.istale } ∧ ∀ a, (fetchWord t a).1 = Memory.inst t.mem a)

/-- R670 to R675 on mscratch, a register every bit of which is stored; and on every register R661 to R663 in the model's own
names: `csrCheck` decides, `csrRead` reads, `csrWrite` writes, after the instruction's own count (`retire`): what of that
count a write of one half of minstret leaves at XLEN = 32 is the model's choice (entry 45). -/
def Obligations.CsrInstructionsReadAndWrite : Prop :=
  (∀ (s : State) (rd rs1 : Reg) (uimm : BitVec 5) (i : Instr) (new : Word),
    let old := wrap s.cfg s.m.mscratch
    ((i = .csrrw rd rs1 0x340 ∧ new = rX s rs1) ∨ (i = .csrrs rd rs1 0x340 ∧ new = old ||| rX s rs1) ∨
      (i = .csrrc rd rs1 0x340 ∧ new = old &&& ~~~(rX s rs1)) ∨ (i = .csrrwi rd uimm 0x340 ∧ new = uimm.setWidth 64) ∨
      (i = .csrrsi rd uimm 0x340 ∧ new = old ||| uimm.setWidth 64) ∨
      (i = .csrrci rd uimm 0x340 ∧ new = old &&& ~~~(uimm.setWidth 64))) →
    i.available s.cfg = true → s.priv = .M → s.virt = false →
    ∃ t, exec i s = .next t ∧ wroteReg s t rd old ∧ wentTo s t (ofXlen s.cfg (s.pc.toNat + 4)) ∧
      wrap s.cfg t.m.mscratch = wrap s.cfg new ∧ sameBytes s t ∧
      sameRest s { t with m := { t.m with mscratch := s.m.mscratch } }) ∧
  (∀ (s : State) (rd rs1 : Reg) (uimm : BitVec 5) (csr : BitVec 12) (i : Instr) (w : Bool) (new : Word → Word),
    ((i = .csrrw rd rs1 csr ∧ w = true ∧ new = fun _ => rX s rs1) ∨
      (i = .csrrs rd rs1 csr ∧ w = (rs1 != 0) ∧ new = fun o => o ||| rX s rs1) ∨
      (i = .csrrc rd rs1 csr ∧ w = (rs1 != 0) ∧ new = fun o => o &&& ~~~(rX s rs1)) ∨
      (i = .csrrwi rd uimm csr ∧ w = true ∧ new = fun _ => uimm.setWidth 64) ∨
      (i = .csrrsi rd uimm csr ∧ w = (uimm != 0) ∧ new = fun o => o ||| uimm.setWidth 64) ∨
      (i = .csrrci rd uimm csr ∧ w = (uimm != 0) ∧ new = fun o => o &&& ~~~(uimm.setWidth 64))) →
    i.available s.cfg = true →
    (∀ r, csrCheck s csr w = .ok r →
      exec i s = .next (wX (if w then csrWrite (retire s) r (wrap s.cfg (new (csrOld s r))) else retire s) rd (csrRead s r))) ∧
    (csrCheck s csr w = .error .illegal → traps i s (illegalExc (encode i))) ∧
    (csrCheck s csr w = .error .virtual → traps i s (virtualExc (encode i))))

/-- The privilege, read-only and counter steps of the access check (R663, R666), and the redirection of R310. -/
def Obligations.CsrPrivilegeIsEnforced : Prop :=
  (∀ (s : State) (csr : BitVec 12) (w : Bool) (r : Csr), csrCheck s csr w = .ok r →
    let level := csr.toNat / 256 % 4
    (csr.toNat / 1024 = 3 → w = false) ∧
    (s.virt = false → level ≤ s.priv.code ∨ (level = 2 ∧ s.priv = .S ∧ s.cfg.hasH = true)) ∧
    (s.virt = true → level = 0 ∨ (level = 1 ∧ s.priv ≠ .U))) ∧
  (∀ (s : State) (a : BitVec 12) (r : Csr) (n : Nat), csrAt a = some r → csrExists s.cfg r = true → n < 32 →
    (a.toNat = 0xC00 + n ∨ a.toNat = 0xC80 + n) →
    let m := (csrRead s .mcounteren).getLsbD n
    let h := (csrRead s .hcounteren).getLsbD n
    let u := (csrRead s .scounteren).getLsbD n
    (s.priv ≠ .M → m = false → csrCheck s a false = .error .illegal) ∧
    (s.priv ≠ .M → m = true → s.virt = true → (h = false ∨ (s.priv = .U ∧ u = false)) → csrCheck s a false = .error .virtual) ∧
    (s.priv = .U → m = true → s.virt = false → s.cfg.hasS = true → u = false → csrCheck s a false = .error .illegal) ∧
    ((s.priv = .M ∨ (m = true ∧ (s.virt = true → h = true) ∧
        (s.priv = .U → (s.virt = true ∨ s.cfg.hasS = true) → u = true))) → csrCheck s a false = .ok r)) ∧
  (∀ (s : State) (w : Bool) (r : Csr), s.virt = true →
    (csrCheck s 0x100 w = .ok r → r = .vsstatus) ∧ (csrCheck s 0x104 w = .ok r → r = .vsie) ∧
    (csrCheck s 0x105 w = .ok r → r = .vstvec) ∧ (csrCheck s 0x140 w = .ok r → r = .vsscratch) ∧
    (csrCheck s 0x141 w = .ok r → r = .vsepc) ∧ (csrCheck s 0x142 w = .ok r → r = .vscause) ∧
    (csrCheck s 0x143 w = .ok r → r = .vstval) ∧ (csrCheck s 0x144 w = .ok r → r = .vsip) ∧
    (csrCheck s 0x180 w = .ok r → r = .vsatp) ∧ (csrCheck s 0x106 w = .ok r → r = .scounteren) ∧
    (csrCheck s 0x10A w = .ok r → r = .senvcfg))

/-- The WARL fields of mstatus and mstatush (R112 to R125, R300), a write of MPP (R116), and sstatus as a view of mstatus
(R200). -/
def Obligations.StatusWritesAreLegalised : Prop :=
  (∀ (s : State) (v : Word),
    let t := csrWrite s .mstatus v
    let mppOf (x : State) := getField (csrRead x .mstatus) 11 2
    let w := v.toNat / 2 ^ 11 % 4
    let has := w = 3 ∨ (w = 1 ∧ s.cfg.hasS = true) ∨ (w = 0 ∧ s.cfg.hasU = true)
    (∀ p ∈ [(3, true), (7, true), (1, s.cfg.hasS), (5, s.cfg.hasS), (8, s.cfg.hasS), (19, s.cfg.hasS), (20, s.cfg.hasS),
        (22, s.cfg.hasS), (17, s.cfg.hasU), (21, s.cfg.hasU), (18, s.cfg.hasPaging)],
      (csrRead t .mstatus).getLsbD p.1 = (p.2 && v.getLsbD p.1)) ∧
    (has → mppOf t = w) ∧ (¬ has → mppOf t = mppOf s) ∧
    (∀ k ∈ [0, 2, 4, 9, 10, 13, 14, 15, 16, 23, 24, 25, 26, 27, 28, 29, 30, 31], (csrRead t .mstatus).getLsbD k = false) ∧
    (let high (k : Nat) (b : Bool) : Bool :=
       if k = 1 then s.cfg.rv64 && s.cfg.hasU
       else if k = 3 then s.cfg.rv64 && s.cfg.hasS
       else if k = 4 then s.cfg.hasS && endianBit s.cfg.sbe b
       else if k = 5 then endianBit s.cfg.mbe b
       else if k = 6 ∨ k = 7 then s.cfg.hasH && b
       else false
     let u := csrWrite s .mstatush v
     (csrRead t .mstatus).getLsbD 6 = (s.cfg.hasU && endianBit s.cfg.ube (v.getLsbD 6)) ∧
     (s.cfg.rv64 = true → ∀ k < 32, (csrRead t .mstatus).getLsbD (32 + k) = high k (v.getLsbD (32 + k))) ∧
     (s.cfg.rv64 = false → csrRead t .mstatush = csrRead s .mstatush ∧ csrRead u .mstatus = csrRead s .mstatus ∧
       ∀ k, (csrRead u .mstatush).getLsbD k = high k (v.getLsbD k)) ∧
     t = { s with m := { s.m with mstatus := t.m.mstatus } } ∧ u = { s with m := { s.m with mstatus := u.m.mstatus } })) ∧
  (∀ (s : State) (v : Word), s.cfg.hasS = true →
    let t := csrWrite s .sstatus v
    (∀ k ∈ [1, 5, 8, 19], (csrRead t .mstatus).getLsbD k = v.getLsbD k) ∧
    (csrRead t .mstatus).getLsbD 18 = (s.cfg.hasPaging && v.getLsbD 18) ∧
    (csrRead t .mstatus).getLsbD 6 = (s.cfg.hasU && endianBit s.cfg.ube (v.getLsbD 6)) ∧
    (∀ k, k ∉ [1, 5, 6, 8, 18, 19] → (csrRead t .mstatus).getLsbD k = (csrRead s .mstatus).getLsbD k) ∧
    (∀ k, (csrRead t .sstatus).getLsbD k = (decide (k ∈ [1, 5, 6, 8, 18, 19, 32, 33]) && (csrRead t .mstatus).getLsbD k)) ∧
    t = { s with m := { s.m with mstatus := t.m.mstatus } })

/-- R225, R322 and R290, with the implemented ASID, VMID and PPN bits at both widths (R223, R226, R288, R291, R292); mtvec, stvec
and vstvec (R127, R209, R315), where that an unsupported MODE still writes BASE is read from R127 by the model (entry 4) and
how Vectored makes BASE legal is its choice (entry 44); the low bits of mepc, sepc and vsepc (R150, R218, R317); the counter
writes of R142 and R144. That at XLEN = 32 the half that is not written keeps the
instruction's own count is the model's choice (entry 45) and not stated. -/
def Obligations.CsrWritesLeaveLegalValues : Prop :=
  (∀ (s : State) (v : Word) (modeAt modeLen idAt asidMax vmidMax ppnLen : Nat),
    let mode := getField v modeAt modeLen
    let tS := csrWrite s .satp v
    let tV := csrWrite s .vsatp v
    let tH := csrWrite s .hgatp v
    let h := csrRead tH .hgatp
    s.cfg.valid = true →
    ((s.cfg.rv64 = true ∧ modeAt = 60 ∧ modeLen = 4 ∧ idAt = 44 ∧ asidMax = 16 ∧ vmidMax = 14 ∧ ppnLen = 44) ∨
      (s.cfg.rv64 = false ∧ modeAt = 31 ∧ modeLen = 1 ∧ idAt = 22 ∧ asidMax = 9 ∧ vmidMax = 7 ∧ ppnLen = 22)) →
    (mode ≠ 0 → mode ∉ s.cfg.satpModes → tS = s ∧ tV = s) ∧
    ((mode = 0 ∨ mode ∈ s.cfg.satpModes) → ∀ x ∈ [csrRead tS .satp, csrRead tV .vsatp],
      getField x modeAt modeLen = mode ∧ getField x idAt asidMax = getField v idAt asidMax % 2 ^ s.cfg.asidLen ∧
      getField x 0 ppnLen = getField v 0 ppnLen % 2 ^ (s.cfg.palen - 12)) ∧
    (mode ≠ 0 → mode ∉ s.cfg.hgatpModes → getField h modeAt modeLen = getField (csrRead s .hgatp) modeAt modeLen) ∧
    ((mode = 0 ∨ mode ∈ s.cfg.hgatpModes) → getField h modeAt modeLen = mode) ∧
    getField h idAt vmidMax = getField v idAt vmidMax % 2 ^ s.cfg.vmidLen ∧ getField h (idAt + vmidMax) 2 = 0 ∧
    getField h 0 ppnLen = getField v 0 ppnLen % 2 ^ (s.cfg.palen - 12) / 4 * 4 ∧
    tS = { s with sv := { s.sv with satp := tS.sv.satp } } ∧ tV = { s with vs := { s.vs with vsatp := tV.vs.vsatp } } ∧
    tH = { s with h := { s.h with hgatp := tH.h.hgatp } }) ∧
  (∀ (s : State) (v : Word) (r : Csr) (vectored : Bool) (base vectoredBase : Word),
    ((r = .mtvec ∧ vectored = s.cfg.mtvecVectored ∧ base = s.cfg.mtvecBase ∧ vectoredBase = s.cfg.mtvecVectoredBase) ∨
      ((r = .stvec ∨ r = .vstvec) ∧ vectored = s.cfg.stvecVectored ∧ base = s.cfg.stvecBase ∧
        vectoredBase = s.cfg.stvecVectoredBase)) →
    let t := csrWrite s r v
    let old := csrRead s r
    let new := csrRead t r
    let takes := getField v 0 2 = 0 ∨ (getField v 0 2 = 1 ∧ vectored = true)
    (takes → getField new 0 2 = getField v 0 2) ∧ (¬ takes → getField new 0 2 = getField old 0 2) ∧
    (∀ k, 2 ≤ k → k < s.cfg.xlen → new.getLsbD k =
      ((decide (getField new 0 2 ≠ 1) || vectoredBase.getLsbD k) && if base.getLsbD k then v.getLsbD k else old.getLsbD k)) ∧
    t = { s with m := { s.m with mtvec := t.m.mtvec }, sv := { s.sv with stvec := t.sv.stvec },
                 vs := { s.vs with vstvec := t.vs.vstvec } } ∧
    (r ≠ .mtvec → t.m.mtvec = s.m.mtvec) ∧ (r ≠ .stvec → t.sv.stvec = s.sv.stvec) ∧
    (r ≠ .vstvec → t.vs.vstvec = s.vs.vstvec)) ∧
  (∀ (s : State) (v : Word),
    let epc := (wrap s.cfg v).toNat / 4 * 4
    (csrRead (csrWrite s .mepc v) .mepc).toNat = epc ∧ (csrRead (csrWrite s .sepc v) .sepc).toNat = epc ∧
    (csrRead (csrWrite s .vsepc v) .vsepc).toNat = epc) ∧
  (∀ (s : State) (v : Word),
    let low (old : Nat) := if s.cfg.rv64 then v.toNat else old / 2 ^ 32 * 2 ^ 32 + v.toNat % 2 ^ 32
    let high (old : Nat) := old % 2 ^ 32 + v.toNat % 2 ^ 32 * 2 ^ 32
    (csrWrite s .minstret v).m.minstret.toNat = low s.m.minstret.toNat ∧
    (csrWrite s .mcycle v).m.mcycle.toNat = low s.m.mcycle.toNat ∧
    (csrWrite s .minstreth v).m.minstret.toNat = high s.m.minstret.toNat ∧
    (csrWrite s .mcycleh v).m.mcycle.toNat = high s.m.mcycle.toNat) ∧
  (∀ (s : State) (rd rs1 : Reg), s.cfg.rv64 = true → s.priv = .M → s.virt = false →
    (Instr.csrrw rd rs1 0xB02).available s.cfg = true →
    ∃ t, exec (.csrrw rd rs1 0xB02) s = .next t ∧ t.m.minstret = rX s rs1 ∧ wroteReg s t rd s.m.minstret ∧
      t.pc = ofXlen s.cfg (s.pc.toNat + 4) ∧ sameBytes s t ∧ sameRest s t)

/-- R263 with R256, R312, R265, R266, R301, R131, and the last sentence of R156; mip (R137, R138, R141) and of SEIP what a set or
clear starts from (R137); menvcfg, senvcfg and henvcfg (R160 to R163, R222, R281). What henvcfg.PBMTE holds when a write raises
menvcfg.PBMTE is free (entry 26) and not stated. -/
def Obligations.CsrWriteMasks : Prop :=
  ∀ (s : State) (v : Word) (k : Nat),
    let b := v.getLsbD
    let bit (t : State) (r : Csr) := (csrRead t r).getLsbD k
    (s.cfg.hasH = true → s.cfg.valid = true →
      bit (csrWrite s .hstatus v) .hstatus =
        (if k ∈ [6, 7, 8, 9, 20, 21, 22] ∨ (12 ≤ k ∧ 2 ^ (k - 12) ≤ s.cfg.geiLen) ∨ (k = 5 ∧ s.cfg.vsbe = .writable)
          then b k else bit s .hstatus) ∧
      bit (csrWrite s .vsstatus v) .vsstatus =
        (if k ∈ [1, 5, 8, 18, 19] ∨ (k = 6 ∧ s.cfg.vsube = .writable) then b k else bit s .vsstatus) ∧
      bit (csrWrite s .hedeleg v) .hedeleg =
        (decide (k ∈ [0, 1, 2, 3, 4, 5, 6, 7, 8, 12, 13, 15]) && s.cfg.hedelegMask.getLsbD k && b k) ∧
      bit (csrWrite s .hideleg v) .hideleg = (decide (k ∈ [2, 6, 10]) && b k)) ∧
    bit (csrWrite s .medeleg v) .medeleg =
      ((decide (k ∈ [0, 1, 2, 3, 4, 5, 6, 7, 8, 9, 12, 13, 15]) || (s.cfg.hasH && decide (k ∈ [10, 20, 21, 22, 23]))) &&
        s.cfg.medelegMask.getLsbD k && b k) ∧
    bit (csrWrite s .mideleg v) .mideleg =
      ((decide (k ∈ [1, 5, 9]) && s.cfg.midelegMask.getLsbD k && b k) ||
        (s.cfg.hasH && (decide (k ∈ [2, 6, 10]) || (decide (k = 12) && s.cfg.geiLen != 0)))) ∧
    ((∀ c, s.cfg.xtvalMask.getLsbD c = false) →
      csrRead s .mtval = 0 ∧ csrRead (csrWrite s .mtval v) .mtval = 0 ∧ (csrWrite s .mtval v).m.mtval = s.m.mtval) ∧
    ((∃ c, c ∈ [0, 1, 2, 3, 5, 7] ∧ s.cfg.xtvalMask.getLsbD c = true) →
      csrRead (csrWrite s .mtval v) .mtval = wrap s.cfg v) ∧
    (let t := csrWrite s .mip v
     bit t .mip =
       (if k = 1 ∨ k = 5 then s.cfg.hasS && b k
         else if k = 9 then s.cfg.hasS && (b 9 || s.plat.sei)
         else if k = 2 then s.cfg.hasH && b 2
         else bit s .mip) ∧
     csrOld s .mip = csrRead { s with plat := { s.plat with sei := false } } .mip ∧
     t = { s with m := { s.m with mip := t.m.mip }, h := { s.h with hvip := t.h.hvip } }) ∧
    (s.cfg.valid = true →
      let fiom := s.cfg.fiomWritable && b 0
      let t := csrWrite s .menvcfg v
      let u := csrWrite s .menvcfgh v
      let pbmte (x : State) := (csrRead x .menvcfg).getLsbD 62
      bit t .menvcfg = ((decide (k = 0) && fiom) || (decide (k = 62) && s.cfg.extSvpbmt && b 62)) ∧
      (s.cfg.rv64 = false → bit u .menvcfgh = false ∧ bit u .menvcfg = bit s .menvcfg) ∧
      bit (csrWrite s .senvcfg v) .senvcfg = (decide (k = 0) && fiom) ∧
      (s.cfg.hasH = true →
        bit (csrWrite s .henvcfg v) .henvcfg = ((decide (k = 0) && fiom) || (decide (k = 62) && pbmte s && b 62)) ∧
        (s.cfg.rv64 = false → bit (csrWrite s .henvcfgh v) .henvcfgh = false ∧
          bit (csrWrite s .henvcfgh v) .henvcfg = bit s .henvcfg) ∧
        (k ≠ 62 ∨ pbmte t = pbmte s → bit t .henvcfg = bit s .henvcfg) ∧
        (pbmte t = false → (csrRead t .henvcfg).getLsbD 62 = false)) ∧
      t = { s with m := { s.m with menvcfg := t.m.menvcfg }, h := { s.h with henvcfg := t.h.henvcfg }, draws := t.draws })

/-- R122, R228, R262, R288 and TVM in R300; R284. -/
def Obligations.TranslationCsrsAreGuarded : Prop :=
  (∀ (s : State) (w : Bool), s.cfg.hasS = true →
    (s.priv = .M → s.virt = false → csrCheck s 0x180 w = .ok .satp) ∧
    (s.priv = .S → s.virt = false →
      csrCheck s 0x180 w = if mstatusBit s TVM then .error .illegal else .ok .satp) ∧
    (s.priv = .S → s.virt = true →
      csrCheck s 0x180 w = if hstatusBit s VTVM then .error .virtual else .ok .vsatp)) ∧
  (∀ (s : State) (w : Bool), s.cfg.hasH = true →
    (s.priv = .M → s.virt = false → csrCheck s 0x680 w = .ok .hgatp ∧ csrCheck s 0x280 w = .ok .vsatp) ∧
    (s.priv = .S → s.virt = false →
      csrCheck s 0x680 w = (if mstatusBit s TVM then .error .illegal else .ok .hgatp) ∧ csrCheck s 0x280 w = .ok .vsatp) ∧
    (s.priv = .U → s.virt = false → csrCheck s 0x680 w = .error .illegal) ∧
    (s.virt = true → csrCheck s 0x680 w = .error .virtual)) ∧
  (∀ (s : State) (v : Word),
    let delta := if s.virt then s.h.htimedelta.toNat else 0
    let time := (s.plat.mtime.toNat + delta) % 2 ^ 64
    let old := s.h.htimedelta.toNat
    (csrRead s .time).toNat = time % 2 ^ s.cfg.xlen ∧ (csrRead s .timeh).toNat = time / 2 ^ 32 ∧
    (csrWrite s .htimedelta v).h.htimedelta.toNat =
      (if s.cfg.rv64 then v.toNat else old / 2 ^ 32 * 2 ^ 32 + v.toNat % 2 ^ 32) ∧
    (csrWrite s .htimedeltah v).h.htimedelta.toNat = old % 2 ^ 32 + v.toNat % 2 ^ 32 * 2 ^ 32)

/-- R851 for the machine-level bits, MTIP without delay (entry 27); the views of R214, R269, R274, R304 and R313, R314; hvip
and its part in hip (R268, R273, R274). -/
def Obligations.InterruptRegistersAndTheirViews : Prop :=
  (∀ s : State,
    (csrRead s .mip).getLsbD 11 = s.plat.mei ∧
    (csrRead s .mip).getLsbD 7 = decide (s.plat.mtimecmp.toNat ≤ s.plat.mtime.toNat) ∧
    (csrRead s .mip).getLsbD 3 = s.plat.msip) ∧
  (∀ (s : State) (k : Nat),
    let mip := (csrRead s .mip).getLsbD; let mie := (csrRead s .mie).getLsbD
    let md := (csrRead s .mideleg).getLsbD; let hd := (csrRead s .hideleg).getLsbD
    let sBit := decide (k = 1 ∨ k = 5 ∨ k = 9)
    (csrRead s .sip).getLsbD k = (sBit && md k && mip k) ∧ (csrRead s .sie).getLsbD k = (sBit && md k && mie k) ∧
    (csrRead s .hip).getLsbD k = (decide (k = 2 ∨ k = 6 ∨ k = 10 ∨ k = 12) && mip k) ∧
    (csrRead s .hie).getLsbD k = (decide (k = 2 ∨ k = 6 ∨ k = 10 ∨ k = 12) && mie k) ∧
    (csrRead s .vsip).getLsbD k = (sBit && hd (k + 1) && mip (k + 1)) ∧
    (csrRead s .vsie).getLsbD k = (sBit && hd (k + 1) && mie (k + 1))) ∧
  (∀ (s : State) (v : Word) (k : Nat),
    let md := (csrRead s .mideleg).getLsbD; let hd := (csrRead s .hideleg).getLsbD
    let guest := getField (csrRead s .hstatus) 12 6
    (s.cfg.hasS = true →
      (csrRead (csrWrite s .sie v) .mie).getLsbD k =
        (if (k = 1 ∨ k = 5 ∨ k = 9) ∧ md k = true then v.getLsbD k else (csrRead s .mie).getLsbD k) ∧
      (csrRead (csrWrite s .sip v) .mip).getLsbD k =
        (if k = 1 ∧ md 1 = true then v.getLsbD 1 else (csrRead s .mip).getLsbD k)) ∧
    (s.cfg.hasH = true →
      (csrRead (csrWrite s .vsie v) .mie).getLsbD k =
        (if (k = 2 ∨ k = 6 ∨ k = 10) ∧ hd k = true then v.getLsbD (k - 1) else (csrRead s .mie).getLsbD k) ∧
      (csrRead (csrWrite s .vsip v) .mip).getLsbD k =
        (if k = 2 ∧ hd 2 = true then v.getLsbD 1 else (csrRead s .mip).getLsbD k) ∧
      (csrRead (csrWrite s .hie v) .mie).getLsbD k =
        (if k ∈ [2, 6, 10] ∨ (k = 12 ∧ s.cfg.geiLen ≠ 0) then v.getLsbD k else (csrRead s .mie).getLsbD k) ∧
      (csrRead (csrWrite s .hvip v) .hvip).getLsbD k = (decide (k ∈ [2, 6, 10]) && v.getLsbD k) ∧
      (csrRead (csrWrite s .hvip v) .mip).getLsbD k =
        (if k = 2 ∨ k = 6 then v.getLsbD k
          else if k = 10 then
            v.getLsbD 10 ||
              (decide (1 ≤ guest ∧ guest ≤ s.cfg.geiLen) && s.plat.gei.getLsbD guest)
          else (csrRead s .mip).getLsbD k) ∧
      (csrRead (csrWrite s .hip v) .mip).getLsbD k = (if k = 2 then v.getLsbD 2 else (csrRead s .mip).getLsbD k)))

/-- R411: only reset unlocks an entry. A write of pmpcfg and of an unlocked pmpaddr (R404, R405, R406, R410); that entries which
are not implemented read zero is D12, which the model holds against R663 (entry 5); that the ones which R410 asks for may reach past
the implemented bits of pmpaddr is the model's choice (entry 50). -/
def Obligations.PmpWritesKeepLocksAndLegalValues : Prop :=
  (∀ (s : State) (n j : Nat) (v : Word),
    let width := if s.cfg.rv64 then 8 else 4
    let t := csrWrite s (.pmpcfg n) v
    let old := getField (csrRead s (.pmpcfg n)) (8 * j) 8
    let new := getField (csrRead t (.pmpcfg n)) (8 * j) 8
    let b := getField v (8 * j) 8
    csrExists s.cfg (.pmpcfg n) = true → n < 16 → j < width →
    (s.cfg.pmpEntries ≤ 4 * n + j → new = 0) ∧
    (4 * n + j < s.cfg.pmpEntries → old / 128 = 1 → new = old) ∧
    (4 * n + j < s.cfg.pmpEntries → old / 128 = 0 →
      new = (if b % 4 = 2 then old % 8 else b % 8) +
        8 * (if b / 8 % 4 = 2 ∧ 1 ≤ s.cfg.pmpG then old / 8 % 4 else b / 8 % 4) + 128 * (b / 128)) ∧
    (∀ i : Fin 64, i.val < 4 * n ∨ 4 * n + width ≤ i.val → t.pmp.cfg.get i = s.pmp.cfg.get i) ∧
    t = { s with pmp := { s.pmp with cfg := t.pmp.cfg }, pmpStale := t.pmpStale, pmpStaleG := t.pmpStaleG }) ∧
  (∀ (s : State) (i : Fin 64) (v : Word),
    let t := csrWrite s (.pmpaddr i.val) v
    i.val < s.cfg.pmpEntries → pmpL (s.pmp.cfg.get i) = false →
    (∀ j : Fin 64, j.val = i.val + 1 → j.val < s.cfg.pmpEntries → pmpL (s.pmp.cfg.get j) = true →
      pmpA (s.pmp.cfg.get j) ≠ 1) →
    (∀ k, (csrRead t (.pmpaddr i.val)).getLsbD k =
      let held := decide (k < min (s.cfg.palen - 2) s.cfg.xlen) && v.getLsbD k
      if (s.pmp.cfg.get i).getLsbD 4 then held || (decide (k + 1 < s.cfg.pmpG) && decide (k < s.cfg.xlen))
      else held && decide (s.cfg.pmpG ≤ k)) ∧
    (∀ j, j ≠ i → t.pmp.addr.get j = s.pmp.addr.get j) ∧
    t = { s with pmp := { s.pmp with addr := t.pmp.addr }, pmpStale := t.pmpStale, pmpStaleG := t.pmpStaleG }) ∧
  ∀ (s : State) (r : Csr) (v : Word) (i : Fin 64), i.val < s.cfg.pmpEntries →
    (pmpL (s.pmp.cfg.get i) = true →
      (csrWrite s r v).pmp.cfg.get i = s.pmp.cfg.get i ∧ (csrWrite s r v).pmp.addr.get i = s.pmp.addr.get i) ∧
    (∀ j : Fin 64, j.val = i.val + 1 → j.val < s.cfg.pmpEntries → pmpL (s.pmp.cfg.get j) = true →
      pmpA (s.pmp.cfg.get j) = 1 → (csrWrite s r v).pmp.addr.get i = s.pmp.addr.get i)

/-- R702 to R704, in M-mode on reachable memory and in any mode on what `access` grants (R340). -/
def Obligations.LoadReservedCompletes : Prop :=
  ∀ (s : State) (aq rl : Bool) (rd rs1 : Reg) (i : Instr) (n : Nat),
    ((i = .lrW aq rl rd rs1 ∧ n = 4) ∨ (i = .lrD aq rl rd rs1 ∧ n = 8)) → i.available s.cfg = true →
    (Reachable s .lr (uReg s rs1) n →
      ∃ t, exec i s = .next t ∧
        wroteReg s t rd (extended s.cfg true n (bytesValue (mstatusBit s MBE) s.mem (uReg s rs1) n)) ∧
        t.resv = some { block := uReg s rs1 / 2 ^ s.cfg.rsetLog2, addr := uReg s rs1, ea := rX s rs1, size := n } ∧
        wentTo s t (ofXlen s.cfg (s.pc.toNat + 4)) ∧ sameBytes s t ∧ sameRest s { t with resv := s.resv }) ∧
    (∀ (s1 : State) (a : Nat), access s .plain .lr (rX s rs1) n = .ok [(a, n)] s1 → isIo s1.cfg a n = false →
      ∃ t, exec i s = .next t ∧
        wroteReg s1 t rd (extended s.cfg true n (bytesValue (viaBig s .plain) s1.mem a n)) ∧
        t.resv = some { block := a / 2 ^ s.cfg.rsetLog2, addr := a, ea := rX s rs1, size := n } ∧
        wentTo s1 t (nextPc s1) ∧ sameBytes s1 t ∧ sameRest s1 { t with resv := s1.resv })

/-- R705 to R708, R712, for every value of the free choice of a spurious failure, in M-mode on reachable memory and in any
mode on what `access` grants (R340). That memory is canonical is an invariant. -/
def Obligations.StoreConditionalCompletes : Prop :=
  ∀ (s : State) (aq rl : Bool) (rd rs1 rs2 : Reg) (i : Instr) (n : Nat),
    ((i = .scW aq rl rd rs1 rs2 ∧ n = 4) ∨ (i = .scD aq rl rd rs1 rs2 ∧ n = 8)) →
    i.available s.cfg = true → s.cfg.valid = true → Memory.wf s.mem = true →
    let held (a : Nat) := ∃ v, s.resv = some v ∧ v.block = a / 2 ^ s.cfg.rsetLog2
    (Reachable s .sc (uReg s rs1) n →
      ∃ t, exec i s = .next t ∧ t.resv = none ∧ wentTo s t (ofXlen s.cfg (s.pc.toNat + 4)) ∧
        (¬ held (uReg s rs1) → wroteReg s t rd 1 ∧ sameBytes s t ∧ sameRest s { t with resv := s.resv }) ∧
        (held (uReg s rs1) → (wroteReg s t rd 0 ∧ stored s t (mstatusBit s MBE) (uReg s rs1) n (uReg s rs2) ∧
            sameRestStore s { t with resv := s.resv } (uReg s rs1) n) ∨
          (s.cfg.scMayFail = true ∧ wroteReg s t rd 1 ∧ sameBytes s t ∧ sameRest s { t with resv := s.resv }))) ∧
    (∀ (s1 : State) (a : Nat), access s .plain .sc (rX s rs1) n = .ok [(a, n)] s1 → isIo s1.cfg a n = false →
      ∃ t, exec i s = .next t ∧ t.resv = none ∧ wentTo s1 t (nextPc s1) ∧
        (¬ held a → wroteReg s1 t rd 1 ∧ sameBytes s1 t ∧ sameRest s1 { t with resv := s1.resv }) ∧
        (held a → (wroteReg s1 t rd 0 ∧ stored s1 t (viaBig s .plain) a n (uReg s rs2) ∧
            sameRestStore s1 { t with resv := s1.resv } a n) ∨
          (s.cfg.scMayFail = true ∧ wroteReg s1 t rd 1 ∧ sameBytes s1 t ∧ sameRest s1 { t with resv := s1.resv })))

/-- R716 and the rules of the nine .W operations, in M-mode on reachable memory and in any mode on what `access` grants
(R340). That memory is canonical is an invariant (`StepKeepsTheInvariant`). -/
def Obligations.AmosOnWords : Prop :=
  ∀ (s : State) (aq rl : Bool) (rd rs1 rs2 : Reg) (i : Instr) (op : AmoOp),
    ((i = .amoswapW aq rl rd rs1 rs2 ∧ op = .swap) ∨
      (i = .amoaddW aq rl rd rs1 rs2 ∧ op = .add) ∨
      (i = .amoxorW aq rl rd rs1 rs2 ∧ op = .xor) ∨
      (i = .amoandW aq rl rd rs1 rs2 ∧ op = .and) ∨
      (i = .amoorW aq rl rd rs1 rs2 ∧ op = .or) ∨
      (i = .amominW aq rl rd rs1 rs2 ∧ op = .min) ∨
      (i = .amomaxW aq rl rd rs1 rs2 ∧ op = .max) ∨
      (i = .amominuW aq rl rd rs1 rs2 ∧ op = .minu) ∨
      (i = .amomaxuW aq rl rd rs1 rs2 ∧ op = .maxu)) →
    i.available s.cfg = true → Memory.wf s.mem = true →
    let new (old : Nat) : Nat :=
      let src := uReg s rs2 % 2 ^ 32
      match op with
      | .swap => src
      | .add => old + src
      | .xor => old ^^^ src
      | .and => old &&& src
      | .or => old ||| src
      | .min => if Int.bmod old (2 ^ 32) < Int.bmod src (2 ^ 32) then old else src
      | .max => if Int.bmod old (2 ^ 32) < Int.bmod src (2 ^ 32) then src else old
      | .minu => if old < src then old else src
      | .maxu => if old < src then src else old
    (Reachable s (.amo op) (uReg s rs1) 4 →
      let old := bytesValue (mstatusBit s MBE) s.mem (uReg s rs1) 4
      ∃ t, exec i s = .next t ∧ wroteReg s t rd (extended s.cfg true 4 old) ∧
        stored s t (mstatusBit s MBE) (uReg s rs1) 4 (new old) ∧ wentTo s t (ofXlen s.cfg (s.pc.toNat + 4)) ∧
        sameRestStore s t (uReg s rs1) 4) ∧
    (∀ (s1 : State) (a : Nat), access s .plain (.amo op) (rX s rs1) 4 = .ok [(a, 4)] s1 → isIo s1.cfg a 4 = false →
      let old := bytesValue (viaBig s .plain) s1.mem a 4
      ∃ t, exec i s = .next t ∧ wroteReg s1 t rd (extended s.cfg true 4 old) ∧
        stored s1 t (viaBig s .plain) a 4 (new old) ∧ wentTo s1 t (nextPc s1) ∧ sameRestStore s1 t a 4)

/-- R716 and the rules of the nine .D operations, in M-mode on reachable memory and in any mode on what `access` grants
(R340). That memory is canonical is an invariant (`StepKeepsTheInvariant`). -/
def Obligations.AmosOnDoublewords : Prop :=
  ∀ (s : State) (aq rl : Bool) (rd rs1 rs2 : Reg) (i : Instr) (op : AmoOp),
    ((i = .amoswapD aq rl rd rs1 rs2 ∧ op = .swap) ∨
      (i = .amoaddD aq rl rd rs1 rs2 ∧ op = .add) ∨
      (i = .amoxorD aq rl rd rs1 rs2 ∧ op = .xor) ∨
      (i = .amoandD aq rl rd rs1 rs2 ∧ op = .and) ∨
      (i = .amoorD aq rl rd rs1 rs2 ∧ op = .or) ∨
      (i = .amominD aq rl rd rs1 rs2 ∧ op = .min) ∨
      (i = .amomaxD aq rl rd rs1 rs2 ∧ op = .max) ∨
      (i = .amominuD aq rl rd rs1 rs2 ∧ op = .minu) ∨
      (i = .amomaxuD aq rl rd rs1 rs2 ∧ op = .maxu)) →
    i.available s.cfg = true → Memory.wf s.mem = true →
    let new (old : Nat) : Nat :=
      let src := uReg s rs2 % 2 ^ 64
      match op with
      | .swap => src
      | .add => old + src
      | .xor => old ^^^ src
      | .and => old &&& src
      | .or => old ||| src
      | .min => if Int.bmod old (2 ^ 64) < Int.bmod src (2 ^ 64) then old else src
      | .max => if Int.bmod old (2 ^ 64) < Int.bmod src (2 ^ 64) then src else old
      | .minu => if old < src then old else src
      | .maxu => if old < src then src else old
    (Reachable s (.amo op) (uReg s rs1) 8 →
      let old := bytesValue (mstatusBit s MBE) s.mem (uReg s rs1) 8
      ∃ t, exec i s = .next t ∧ wroteReg s t rd (extended s.cfg true 8 old) ∧
        stored s t (mstatusBit s MBE) (uReg s rs1) 8 (new old) ∧ wentTo s t (ofXlen s.cfg (s.pc.toNat + 4)) ∧
        sameRestStore s t (uReg s rs1) 8) ∧
    (∀ (s1 : State) (a : Nat), access s .plain (.amo op) (rX s rs1) 8 = .ok [(a, 8)] s1 → isIo s1.cfg a 8 = false →
      let old := bytesValue (viaBig s .plain) s1.mem a 8
      ∃ t, exec i s = .next t ∧ wroteReg s1 t rd (extended s.cfg true 8 old) ∧
        stored s1 t (viaBig s .plain) a 8 (new old) ∧ wentTo s1 t (nextPc s1) ∧ sameRestStore s1 t a 8)

/-- R708 for the stores of other agents, to memory and to the memory-mapped registers, whole (mtime, mtimecmp, msip) and byte by
byte; reset leaves no reservation (R930). -/
def Obligations.OtherAgentsEndReservations : Prop :=
  (∀ (s : State) (e : Input), s.resv = none → (applyInput s e).resv = none) ∧
  (∀ (s : State) (e : Input), e.reset = true → (applyInput s e).resv = none) ∧
  (∀ (s : State) (e : Input) (v : Reservation), s.resv = some v → e.reset = false →
    let t := applyInput s e
    let inSet (a : Nat) := a / 2 ^ s.cfg.rsetLog2 = v.block
    let inLr (a : Nat) := v.addr ≤ a ∧ a < v.addr + v.size
    let own := s.cfg.mhartid.toNat
    let byHart := (∃ c ∈ e.stores, inSet c.1) ∨
      (e.mtime.isSome = true ∧ ∃ k < 8, inSet (s.cfg.mtimeBase + k)) ∨
      (e.mtimecmp.isSome = true ∧ ∃ k < 8, inSet (s.cfg.mtimecmpBase + 8 * own + k)) ∨
      (e.msip.isSome = true ∧ ∃ k < 4, inSet (s.cfg.msipBase + 4 * own + k))
    let onLr := ∃ c ∈ e.deviceStores, inLr c.1
    let onSet := ∃ c ∈ e.deviceStores, inSet c.1
    (byHart ∨ onLr → t.resv = none) ∧
    (¬ byHart → ¬ onLr → ¬ onSet → t.resv = some v) ∧
    (¬ byHart → ¬ onLr → onSet → t.resv = if e.dropResv then none else some v)) ∧
  (∀ (s : State) (e : Input) (a : Nat) (b : Byte), s.cfg.valid = true → e.reset = false → e.walks = [] →
    isIo s.cfg a 1 = true → e.stores ++ e.deviceStores = [(a, b)] → e.mtime = none → e.mtimecmp = none → e.msip = none →
    let t := applyInput s e
    let own := s.cfg.mhartid.toNat
    let put (old : BitVec 64) (k : Nat) := old.toNat % 2 ^ (8 * k) + 2 ^ (8 * k) * b.toNat +
      old.toNat / 2 ^ (8 * k + 8) * 2 ^ (8 * k + 8)
    (∀ k < 8, a = s.cfg.mtimeBase + k → t.plat.mtime.toNat = put s.plat.mtime k ∧ t.mem = s.mem) ∧
    (∀ k < 8, a = s.cfg.mtimecmpBase + 8 * own + k → t.plat.mtimecmp.toNat = put s.plat.mtimecmp k ∧ t.mem = s.mem) ∧
    (a = s.cfg.msipBase + 4 * own → t.plat.msip = b.getLsbD 0 ∧ t.mem = s.mem))

/-- R740 to R742. -/
def Obligations.EcallAndEbreakTrap : Prop :=
  ∀ s : State,
    let code := if s.priv = .M then 11 else if s.priv = .U then 8 else if s.virt then 10 else 9
    traps .ecall s (instrExc code 0 false) ∧ traps .ebreak s (instrExc 3 s.pc s.virt) ∧
    ∀ i t, (i = .ecall ∨ i = .ebreak) → exec i s = .next t →
      t.m.minstret = s.m.minstret ∧ sameRegs s t ∧ sameBytes s t

/-- R744 (MRET) and R745 (SRET by mode), with R746. -/
def Obligations.TrapReturns : Prop :=
  (∀ s : State,
    (s.priv = .M →
      ∃ t, exec .mret s = .next t ∧ t.priv = mpp s ∧
        t.virt = (s.cfg.hasH && decide (mpp s ≠ .M) && mstatusBit s MPV) ∧
        mstatusBit t MIE = mstatusBit s MPIE ∧ mstatusBit t MPIE = true ∧ mpp t = leastPriv s.cfg ∧
        mstatusBit t MPV = false ∧ mstatusBit t MPRV = (decide (mpp s = .M) && mstatusBit s MPRV) ∧
        (∀ k, k ≠ MIE → k ≠ MPIE → k ≠ MPP → k ≠ MPP + 1 → k ≠ MPV → k ≠ MPRV →
          t.m.mstatus.getLsbD k = s.m.mstatus.getLsbD k) ∧
        wentTo s t (ofXlen s.cfg (s.m.mepc.toNat / 4 * 4)) ∧ sameRegs s t ∧ sameBytes s t ∧
        (s.cfg.xretClears = false → t.resv = s.resv) ∧
        t = { s with pc := t.pc, priv := t.priv, virt := t.virt, resv := t.resv,
                     m := { s.m with mstatus := t.m.mstatus, minstret := t.m.minstret } }) ∧
    (s.priv ≠ .M → traps .mret s (illegalExc (encode .mret)))) ∧
  (∀ s : State, s.cfg.valid = true → s.cfg.hasS = true → (s.virt = true → s.cfg.hasH = true) →
    (s.virt = false → (s.priv = .M ∨ (s.priv = .S ∧ mstatusBit s TSR = false)) →
      ∃ t, exec .sret s = .next t ∧ t.priv = (if mstatusBit s SPP then .S else .U) ∧
        t.virt = (s.cfg.hasH && hstatusBit s SPV) ∧ mstatusBit t SIE = mstatusBit s SPIE ∧ mstatusBit t SPIE = true ∧
        mstatusBit t SPP = false ∧ mstatusBit t MPRV = false ∧ (s.cfg.hasH = true → hstatusBit t SPV = false) ∧
        wentTo s t (ofXlen s.cfg (s.sv.sepc.toNat / 4 * 4)) ∧ sameRegs s t ∧ sameBytes s t ∧
        (∀ k, k ≠ SIE → k ≠ SPIE → k ≠ SPP → k ≠ MPRV → t.m.mstatus.getLsbD k = s.m.mstatus.getLsbD k) ∧
        (∀ k, k ≠ SPV → t.h.hstatus.getLsbD k = s.h.hstatus.getLsbD k) ∧ (s.cfg.hasH = false → t.h = s.h) ∧
        (s.cfg.xretClears = false → t.resv = s.resv) ∧
        t = { s with pc := t.pc, priv := t.priv, virt := t.virt, resv := t.resv,
                     m := { s.m with mstatus := t.m.mstatus, minstret := t.m.minstret },
                     h := { s.h with hstatus := t.h.hstatus } }) ∧
    (s.virt = true → s.priv = .S → hstatusBit s VTSR = false →
      ∃ t, exec .sret s = .next t ∧ t.priv = (if vsstatusBit s SPP then .S else .U) ∧ t.virt = true ∧
        vsstatusBit t SIE = vsstatusBit s SPIE ∧ vsstatusBit t SPIE = true ∧ vsstatusBit t SPP = false ∧
        wentTo s t (ofXlen s.cfg (s.vs.vsepc.toNat / 4 * 4)) ∧ sameRegs s t ∧ sameBytes s t ∧
        (∀ k, k ≠ SIE → k ≠ SPIE → k ≠ SPP → t.vs.vsstatus.getLsbD k = s.vs.vsstatus.getLsbD k) ∧
        (s.cfg.xretClears = false → t.resv = s.resv) ∧
        t = { s with pc := t.pc, priv := t.priv, resv := t.resv, m := { s.m with minstret := t.m.minstret },
                     vs := { s.vs with vsstatus := t.vs.vsstatus } }) ∧
    (s.virt = false → (s.priv = .U ∨ (s.priv = .S ∧ mstatusBit s TSR = true)) →
      traps .sret s (illegalExc (encode .sret))) ∧
    (s.virt = true → (s.priv = .U ∨ (s.priv = .S ∧ hstatusBit s VTSR = true)) →
      traps .sret s (virtualExc (encode .sret))))

/-- R747, R748. That the hart stalls whenever it may, and wakes without a pending interrupt only by the free value `wfiWakes`,
is the model's choice (entry 8). -/
def Obligations.WfiStallsAndResumes : Prop :=
  (∀ s : State,
    let tw := mstatusBit s TW = true
    let runs := s.priv = .M ∨ (¬ tw ∧
      ((s.virt = false ∧ (s.priv = .S ∨ s.cfg.hasS = false)) ∨ (s.virt = true ∧ s.priv = .S ∧ hstatusBit s VTW = false)))
    let vu := s.virt = true ∧ s.priv = .U ∧ ¬ tw
    let cause := if s.virt = true ∧ ¬ tw then virtualExc (encode .wfi) else illegalExc (encode .wfi)
    let completes (stalled : Bool) := ∃ t, exec .wfi s = .next t ∧ sameRegs s t ∧ sameBytes s t ∧
      wentTo s t (ofXlen s.cfg (s.pc.toNat + 4)) ∧ t.stalled = stalled ∧ sameRest s { t with stalled := s.stalled }
    (runs → completes (s.cfg.wfiMayStall && !anyPending s)) ∧
    (¬ runs → (s.cfg.wfiLimitZero = true ∨ vu) → traps .wfi s cause) ∧
    (¬ runs → s.cfg.wfiLimitZero = false → ¬ vu → anyPending s = true → completes false) ∧
    (¬ runs → s.cfg.wfiLimitZero = false → ¬ vu → completes false ∨ traps .wfi s cause)) ∧
  (∀ s : State, s.inputs = [] → boundaryTrap s = none → s.stalled = true →
    (anyPending s = true → step s = after s (runInstr { s with stalled := false })) ∧
    (anyPending s = false →
      step s = after s (runInstr { s with stalled := false, draws := s.draws + 1 }) ∨
      step s = .next (tick s { s with draws := s.draws + 1 })))

/-- R471, R477, R750, R771; SINVAL.VMA acts at once as SFENCE.VMA, as R774 has the hardware specified do, on the PMP settings
too (R418; entry 34). That entries not selected stay, where R471 lets more go, is entry 9. R772, R773 and the table of R775.
-/
def Obligations.SupervisorFencesActOrTrap : Prop :=
  (∀ (s : State) (rs1 rs2 : Reg) (i : Instr), (i = .sfenceVma rs1 rs2 ∨ i = .sinvalVma rs1 rs2) → i.available s.cfg = true →
    let named (e : TcEntry) := rs2 = 0 ∨ (e.asid = uReg s rs2 % 2 ^ s.cfg.asidLen ∧ e.global = false)
    (s.virt = false → (s.priv = .M ∨ (s.priv = .S ∧ mstatusBit s TVM = false)) →
      ∃ t, exec i s = .next t ∧ sameRegs s t ∧ sameBytes s t ∧ wentTo s t (ofXlen s.cfg (s.pc.toNat + 4)) ∧
        sameRest s { t with tc := s.tc, pmpStale := s.pmpStale } ∧
        t.pmpStale = (if s.priv = .M ∧ rs1 = 0 ∧ rs2 = 0 then [] else s.pmpStale) ∧
        ((rs1 = 0 ∨ validVa s.cfg (satpRead s) (rX s rs1) = true) →
          Fenced s t (fun e => e.stage = .single ∧ named e) (namedAddr s rs1 1)) ∧
        (rs1 ≠ 0 → validVa s.cfg (satpRead s) (rX s rs1) = false → t.tc = s.tc)) ∧
    (s.virt = true → s.priv = .S → hstatusBit s VTVM = false →
      ∃ t, exec i s = .next t ∧ sameRegs s t ∧ sameBytes s t ∧ wentTo s t (ofXlen s.cfg (s.pc.toNat + 4)) ∧
        sameRest s { t with tc := s.tc } ∧
        ((rs1 = 0 ∨ validVa s.cfg (vsatpRead s) (rX s rs1) = true) →
          Fenced s t (fun e => e.stage = .vs ∧ e.vmid = vmidOf s ∧ named e) (namedAddr s rs1 1)) ∧
        (rs1 ≠ 0 → validVa s.cfg (vsatpRead s) (rX s rs1) = false → t.tc = s.tc)) ∧
    (s.virt = false → (s.priv = .U ∨ (s.priv = .S ∧ mstatusBit s TVM = true)) → traps i s (illegalExc (encode i))) ∧
    (s.virt = true → (s.priv = .U ∨ (s.priv = .S ∧ hstatusBit s VTVM = true)) → traps i s (virtualExc (encode i)))) ∧
  (∀ (s : State) (i : Instr), (i = .sfenceWInval ∨ i = .sfenceInvalIr) → i.available s.cfg = true →
    (s.priv ≠ .U → onlyRetires i s) ∧
    (s.priv = .U → s.virt = false → traps i s (illegalExc (encode i))) ∧
    (s.priv = .U → s.virt = true → traps i s (virtualExc (encode i))))

/-- R776, R777, R790, R792, R488. HINVAL.VVMA and HINVAL.GVMA act at once as HFENCE.VVMA and HFENCE.GVMA, as R774 has the
hardware specified do; that this takes in the PMP settings is entry 34. That entries not selected stay, where R471 lets more
go, is entry 9. -/
def Obligations.HypervisorFencesInvalidate : Prop :=
  ∀ (s : State) (rs1 rs2 : Reg) (i : Instr) (g : Bool),
    ((i = .hfenceVvma rs1 rs2 ∧ g = false) ∨ (i = .hinvalVvma rs1 rs2 ∧ g = false) ∨
      (i = .hfenceGvma rs1 rs2 ∧ g = true) ∨ (i = .hinvalGvma rs1 rs2 ∧ g = true)) → i.available s.cfg = true →
    (s.virt = false → (s.priv = .M ∨ (s.priv = .S ∧ (g = true → mstatusBit s TVM = false))) →
      ∃ t, exec i s = .next t ∧ sameRegs s t ∧ sameBytes s t ∧ wentTo s t (ofXlen s.cfg (s.pc.toNat + 4)) ∧
        sameRest s { t with tc := s.tc, pmpStaleG := s.pmpStaleG } ∧
        (g = true →
          Fenced s t (fun e => e.stage = .g ∧ (rs2 = 0 ∨ e.vmid = uReg s rs2 % 2 ^ s.cfg.vmidLen)) (namedAddr s rs1 4) ∧
          t.pmpStaleG = (if rs1 = 0 ∧ rs2 = 0 then [] else s.pmpStaleG)) ∧
        (g = false → t.pmpStaleG = s.pmpStaleG ∧
          ((rs1 = 0 ∨ validVa s.cfg (vsatpRead s) (rX s rs1) = true) →
            Fenced s t (fun e => e.stage = .vs ∧ e.vmid = vmidOf s ∧
              (rs2 = 0 ∨ (e.asid = uReg s rs2 % 2 ^ s.cfg.asidLen ∧ e.global = false))) (namedAddr s rs1 1)) ∧
          (rs1 ≠ 0 → validVa s.cfg (vsatpRead s) (rX s rs1) = false → t.tc = s.tc))) ∧
    (s.virt = true → traps i s (virtualExc (encode i))) ∧
    (s.virt = false → (s.priv = .U ∨ (s.priv = .S ∧ g = true ∧ mstatusBit s TVM = true)) →
      traps i s (illegalExc (encode i)))

/-- R782 to R789, R793 to R795. That memory is reached through `access .guest` is R782. -/
def Obligations.GuestLoadsComplete : Prop :=
  (∀ (s : State) (rd rs1 : Reg) (i : Instr) (u : PmaUse) (n : Nat) (signed : Bool),
    ((i = .hlvB rd rs1 ∧ u = .load ∧ n = 1 ∧ signed = true) ∨
      (i = .hlvBu rd rs1 ∧ u = .load ∧ n = 1 ∧ signed = false) ∨
      (i = .hlvH rd rs1 ∧ u = .load ∧ n = 2 ∧ signed = true) ∨
      (i = .hlvHu rd rs1 ∧ u = .load ∧ n = 2 ∧ signed = false) ∨
      (i = .hlvxHu rd rs1 ∧ u = .hlvx ∧ n = 2 ∧ signed = false) ∨
      (i = .hlvW rd rs1 ∧ u = .load ∧ n = 4 ∧ signed = true) ∨
      (i = .hlvWu rd rs1 ∧ u = .load ∧ n = 4 ∧ signed = false) ∨
      (i = .hlvxWu rd rs1 ∧ u = .hlvx ∧ n = 4 ∧ signed = false) ∨
      (i = .hlvD rd rs1 ∧ u = .load ∧ n = 8 ∧ signed = true)) →
    i.available s.cfg = true → GuestReachable s u (uReg s rs1) n →
    yields i s rd (extended s.cfg signed n (bytesValue (dataBig s (effMode s .guest).1 true) s.mem (uReg s rs1) n))) ∧
  (∀ (s s1 : State) (rd rs1 : Reg) (i : Instr) (u : PmaUse) (n : Nat) (signed : Bool) (parts : List (Nat × Nat)),
    ((i = .hlvB rd rs1 ∧ u = .load ∧ n = 1 ∧ signed = true) ∨
      (i = .hlvBu rd rs1 ∧ u = .load ∧ n = 1 ∧ signed = false) ∨
      (i = .hlvH rd rs1 ∧ u = .load ∧ n = 2 ∧ signed = true) ∨
      (i = .hlvHu rd rs1 ∧ u = .load ∧ n = 2 ∧ signed = false) ∨
      (i = .hlvxHu rd rs1 ∧ u = .hlvx ∧ n = 2 ∧ signed = false) ∨
      (i = .hlvW rd rs1 ∧ u = .load ∧ n = 4 ∧ signed = true) ∨
      (i = .hlvWu rd rs1 ∧ u = .load ∧ n = 4 ∧ signed = false) ∨
      (i = .hlvxWu rd rs1 ∧ u = .hlvx ∧ n = 4 ∧ signed = false) ∨
      (i = .hlvD rd rs1 ∧ u = .load ∧ n = 8 ∧ signed = true)) →
    i.available s.cfg = true → guestAccessDenied s = none → access s .guest u (rX s rs1) n = .ok parts s1 →
    (∀ p ∈ parts, isIo s1.cfg p.1 p.2 = false) →
    ∃ t, exec i s = .next t ∧
      wroteReg s1 t rd (wrap s.cfg ((if signed then sextBytes n else id) (ofBytes (orderBytes (viaBig s .guest)
        (parts.flatMap fun p => Memory.readBytes s1.mem p.1 p.2))))) ∧
      wentTo s1 t (nextPc s1) ∧ sameBytes s1 t ∧ sameRest s1 t)

/-- R782, R783, R796 to R799. That the hart's own reservation stays, as after its other stores, is R708 read over R801 (e)
(entry 41). That memory is canonical is an invariant (`StepKeepsTheInvariant`). -/
def Obligations.GuestStoresComplete : Prop :=
  (∀ (s : State) (rs1 rs2 : Reg) (i : Instr) (n : Nat),
    ((i = .hsvB rs1 rs2 ∧ n = 1) ∨ (i = .hsvH rs1 rs2 ∧ n = 2) ∨ (i = .hsvW rs1 rs2 ∧ n = 4) ∨ (i = .hsvD rs1 rs2 ∧ n = 8)) →
    i.available s.cfg = true → Memory.wf s.mem = true → GuestReachable s .store (uReg s rs1) n →
    ∃ t, exec i s = .next t ∧ stored s t (dataBig s (effMode s .guest).1 true) (uReg s rs1) n (uReg s rs2) ∧
      sameRegs s t ∧ wentTo s t (ofXlen s.cfg (s.pc.toNat + 4)) ∧ sameRestStore s t (uReg s rs1) n) ∧
  (∀ (s s1 : State) (rs1 rs2 : Reg) (i : Instr) (n a : Nat),
    ((i = .hsvB rs1 rs2 ∧ n = 1) ∨ (i = .hsvH rs1 rs2 ∧ n = 2) ∨ (i = .hsvW rs1 rs2 ∧ n = 4) ∨ (i = .hsvD rs1 rs2 ∧ n = 8)) →
    i.available s.cfg = true → guestAccessDenied s = none → Memory.wf s.mem = true →
    (access s .guest .store (rX s rs1) n = .ok [(a, n)] s1 → isIo s1.cfg a n = false →
      ∃ t, exec i s = .next t ∧ stored s1 t (viaBig s .guest) a n (uReg s rs2) ∧
        sameRegs s1 t ∧ wentTo s1 t (nextPc s1) ∧ sameRestStore s1 t a n) ∧
    (∀ m b k, access s .guest .store (rX s rs1) n = .ok [(a, m), (b, k)] s1 →
      isIo s1.cfg a m = false → isIo s1.cfg b k = false →
      let bs := orderBytes (viaBig s .guest) (bytesOf n (rX s rs2))
      ∃ t, exec i s = .next t ∧
        (∀ x, Memory.read t.mem x = if b ≤ x ∧ x < b + k then bs.getD (m + (x - b)) 0
          else if a ≤ x ∧ x < a + m then bs.getD (x - a) 0 else Memory.read s1.mem x) ∧
        (∀ e ∈ s1.istale, e ∈ t.istale) ∧
        (∀ e ∈ t.istale, e ∈ s1.istale ∨ (e.1 % 4 = 0 ∧
          ((e.1 < a + m ∧ a < e.1 + 4) ∨ (e.1 < b + k ∧ b < e.1 + 4)) ∧ e.2 = Memory.inst s1.mem e.1)) ∧
        sameRegs s1 t ∧ wentTo s1 t (nextPc s1) ∧ sameRest s1 { t with istale := s1.istale }))

/-- The table of R803: the permission each instruction's meaning asks for, and that a denial is its trap. -/
def Obligations.GuestAccessNeedsItsMode : Prop :=
  ∀ s : State, s.cfg.hasH = true →
    (s.virt = true → guestAccessDenied s = some .virtual ∧ hfenceVDenied s = some .virtual ∧ hfenceGDenied s = some .virtual) ∧
    (s.virt = false →
      guestAccessDenied s = (if s.priv = .U ∧ hstatusBit s HU = false then some .illegal else none) ∧
      hfenceVDenied s = (if s.priv = .U then some .illegal else none) ∧
      hfenceGDenied s = (if s.priv = .U ∨ (s.priv = .S ∧ mstatusBit s TVM = true) then some .illegal else none)) ∧
    ∀ (rd rs1 rs2 : Reg) (i : Instr) (d : Option Denied), i.available s.cfg = true →
      ((i = .hlvB rd rs1 ∧ d = guestAccessDenied s) ∨
        (i = .hlvBu rd rs1 ∧ d = guestAccessDenied s) ∨
        (i = .hlvH rd rs1 ∧ d = guestAccessDenied s) ∨
        (i = .hlvHu rd rs1 ∧ d = guestAccessDenied s) ∨
        (i = .hlvxHu rd rs1 ∧ d = guestAccessDenied s) ∨
        (i = .hlvW rd rs1 ∧ d = guestAccessDenied s) ∨
        (i = .hlvWu rd rs1 ∧ d = guestAccessDenied s) ∨
        (i = .hlvxWu rd rs1 ∧ d = guestAccessDenied s) ∨
        (i = .hlvD rd rs1 ∧ d = guestAccessDenied s) ∨
        (i = .hsvB rs1 rs2 ∧ d = guestAccessDenied s) ∨
        (i = .hsvH rs1 rs2 ∧ d = guestAccessDenied s) ∨
        (i = .hsvW rs1 rs2 ∧ d = guestAccessDenied s) ∨
        (i = .hsvD rs1 rs2 ∧ d = guestAccessDenied s) ∨
        (i = .hfenceVvma rs1 rs2 ∧ d = hfenceVDenied s) ∨
        (i = .hfenceGvma rs1 rs2 ∧ d = hfenceGDenied s)) →
      (d = some .illegal → traps i s (illegalExc (encode i))) ∧ (d = some .virtual → traps i s (virtualExc (encode i)))

/-- R860, destination M. -/
def Obligations.TrapsIntoMachineModeSave : Prop :=
  ∀ (s : State) (irq : Bool) (code : Nat) (tval tval2 tinst : Word) (gva : Bool), code < 32 →
    let t := takeTrap s irq code .M tval tval2 tinst gva
    t.m.mepc = s.pc ∧ t.m.mcause.toNat = code + (if irq then 2 ^ (s.cfg.xlen - 1) else 0) ∧ t.m.mtval = tval ∧
    mstatusBit t MPIE = mstatusBit s MIE ∧ mstatusBit t MIE = false ∧ mpp t = s.priv ∧
    (s.cfg.hasH = true → mstatusBit t MPV = s.virt ∧ mstatusBit t GVA = gva ∧ t.m.mtval2 = tval2 ∧ t.m.mtinst = tinst) ∧
    (∀ k, k ≠ MIE → k ≠ MPIE → k ≠ MPP → k ≠ MPP + 1 → k ≠ MPV → k ≠ GVA →
      t.m.mstatus.getLsbD k = s.m.mstatus.getLsbD k) ∧
    t.pc = ofXlen s.cfg (s.m.mtvec.toNat / 4 * 4 + if irq ∧ s.m.mtvec.toNat % 4 = 1 then 4 * code else 0) ∧
    t = { s with pc := t.pc, priv := .M, virt := false,
                 m := { s.m with mstatus := t.m.mstatus, mepc := t.m.mepc, mcause := t.m.mcause, mtval := t.m.mtval,
                                 mtval2 := t.m.mtval2, mtinst := t.m.mtinst } }

/-- R860, destination S or HS, from U or S-mode. -/
def Obligations.TrapsIntoSupervisorModeSave : Prop :=
  ∀ (s : State) (irq : Bool) (code : Nat) (tval tval2 tinst : Word) (gva : Bool),
    code < 32 → s.cfg.hasS = true →
    let t := takeTrap s irq code .S tval tval2 tinst gva
    t.sv.sepc = s.pc ∧ t.sv.scause.toNat = code + (if irq then 2 ^ (s.cfg.xlen - 1) else 0) ∧ t.sv.stval = tval ∧
    mstatusBit t SPIE = mstatusBit s SIE ∧ mstatusBit t SIE = false ∧ mstatusBit t SPP = decide (s.priv = .S) ∧
    (s.cfg.hasH = true → hstatusBit t SPV = s.virt ∧ hstatusBit t HGVA = gva ∧
      hstatusBit t SPVP = (if s.virt then decide (s.priv = .S) else hstatusBit s SPVP) ∧
      t.h.htval = tval2 ∧ t.h.htinst = tinst) ∧
    (∀ k, k ≠ HGVA → k ≠ SPV → k ≠ SPVP → t.h.hstatus.getLsbD k = s.h.hstatus.getLsbD k) ∧
    (s.cfg.hasH = false → t.h = s.h) ∧
    (∀ k, k ≠ SIE → k ≠ SPIE → k ≠ SPP → t.m.mstatus.getLsbD k = s.m.mstatus.getLsbD k) ∧
    t.pc = ofXlen s.cfg (s.sv.stvec.toNat / 4 * 4 + if irq ∧ s.sv.stvec.toNat % 4 = 1 then 4 * code else 0) ∧
    t = { s with pc := t.pc, priv := .S, virt := false, m := { s.m with mstatus := t.m.mstatus },
                 sv := { s.sv with sepc := t.sv.sepc, scause := t.sv.scause, stval := t.sv.stval },
                 h := { s.h with hstatus := t.h.hstatus, htval := t.h.htval, htinst := t.h.htinst } }

/-- R860, destination VS, with the translated interrupt numbers. -/
def Obligations.TrapsIntoVirtualSupervisorModeSave : Prop :=
  ∀ (s : State) (irq : Bool) (code : Nat) (tval tval2 tinst : Word) (gva : Bool), (irq = true → 1 ≤ code) → code < 32 →
    let t := takeTrap s irq code .VS tval tval2 tinst gva
    let c := if irq then code - 1 else code
    t.vs.vsepc = s.pc ∧ t.vs.vscause.toNat = c + (if irq then 2 ^ (s.cfg.xlen - 1) else 0) ∧ t.vs.vstval = tval ∧
    vsstatusBit t SPIE = vsstatusBit s SIE ∧ vsstatusBit t SIE = false ∧ vsstatusBit t SPP = decide (s.priv = .S) ∧
    (∀ k, k ≠ SIE → k ≠ SPIE → k ≠ SPP → t.vs.vsstatus.getLsbD k = s.vs.vsstatus.getLsbD k) ∧
    t.pc = ofXlen s.cfg (s.vs.vstvec.toNat / 4 * 4 + if irq ∧ s.vs.vstvec.toNat % 4 = 1 then 4 * c else 0) ∧
    t = { s with pc := t.pc, priv := .S,
                 vs := { s.vs with vsstatus := t.vs.vsstatus, vsepc := t.vs.vsepc, vscause := t.vs.vscause,
                                   vstval := t.vs.vstval } }

/-- ExcDest of R860, and clause (6) of R861. -/
def Obligations.ExceptionsGoWhereDelegated : Prop :=
  ∀ (s : State) (code : Nat),
    let delegated := s.priv ≠ .M ∧ s.cfg.hasS = true ∧ (medelegRead s).getLsbD code = true
    let again := s.cfg.hasH = true ∧ s.virt = true ∧ (hedelegRead s).getLsbD code = true
    (¬ delegated → excDest s code = .M) ∧ (delegated → again → excDest s code = .VS) ∧
    (delegated → ¬ again → excDest s code = .S) ∧
    (medelegRead s).getLsbD 11 = false ∧
    (∀ k ∈ [9, 10, 11, 20, 21, 22, 23], (hedelegRead s).getLsbD k = false)

/-- R862, R905, R907, R913 and R914 as one exception is taken (`raise`, which `traps` names); R911 over all memory
instructions. That GVA is 0 where XTVAL_POLICY writes zero (entry 32), and xtval2 0 where XTINST_POLICY writes no
pseudoinstruction (entry 33), is the model's choice. -/
def Obligations.RaiseFillsTheTrapRegisters : Prop :=
  (∀ (s : State) (inst : Inst) (e : Exc), e.cause < 32 →
    let t := raise s inst e
    let informative := s.cfg.xtvalMask.getLsbD e.cause
    let value := if informative then wrap s.cfg e.tval else 0
    let gva := e.gva && informative && decide (e.cause ∉ [2, 8, 9, 10, 11, 22])
    let guestFault := e.cause = 20 ∨ e.cause = 21 ∨ e.cause = 23
    let noPseudo := e.implicit ≠ none ∧ s.cfg.tinstPseudo = false
    let gpa := if guestFault ∧ ¬ noPseudo then e.gpa / 4 % 2 ^ s.cfg.xlen else 0
    let tinst : Word :=
      if guestFault ∧ e.implicit ≠ none then
        if s.cfg.tinstPseudo = false then 0
        else if e.implicit = some true then (if s.cfg.rv64 then 0x3020 else 0x2020)
        else (if s.cfg.rv64 then 0x3000 else 0x2000)
      else if e.cause ∈ [4, 5, 6, 7, 13, 15, 21, 23] ∧ s.cfg.tinstTransform = true then (transform inst e.off).setWidth 64
      else 0
    (excDest s e.cause = .M → t.priv = .M ∧ t.m.mcause.toNat = e.cause ∧ t.m.mepc = s.pc ∧ t.m.mtval = value ∧
      (s.cfg.hasH = true → t.m.mtval2.toNat = gpa ∧ t.m.mtinst = tinst ∧ mstatusBit t GVA = gva)) ∧
    (excDest s e.cause = .S → t.priv = .S ∧ t.virt = false ∧ t.sv.scause.toNat = e.cause ∧ t.sv.sepc = s.pc ∧
      t.sv.stval = value ∧
      (s.cfg.hasH = true → t.h.htval.toNat = gpa ∧ t.h.htinst = tinst ∧ hstatusBit t HGVA = gva)) ∧
    (excDest s e.cause = .VS → t.priv = .S ∧ t.virt = s.virt ∧ t.vs.vscause.toNat = e.cause ∧ t.vs.vsepc = s.pc ∧
      t.vs.vstval = value ∧ t.h = s.h)) ∧
  (∀ (rd rs1 rs2 off : Reg) (imm : BitVec 12) (aq rl : Bool) (i j : Instr),
    ((i = .lb rd rs1 imm ∧ j = .lb rd off 0) ∨
      (i = .lh rd rs1 imm ∧ j = .lh rd off 0) ∨
      (i = .lw rd rs1 imm ∧ j = .lw rd off 0) ∨
      (i = .lbu rd rs1 imm ∧ j = .lbu rd off 0) ∨
      (i = .lhu rd rs1 imm ∧ j = .lhu rd off 0) ∨
      (i = .ld rd rs1 imm ∧ j = .ld rd off 0) ∨
      (i = .lwu rd rs1 imm ∧ j = .lwu rd off 0) ∨
      (i = .sb rs1 rs2 imm ∧ j = .sb off rs2 0) ∨
      (i = .sh rs1 rs2 imm ∧ j = .sh off rs2 0) ∨
      (i = .sw rs1 rs2 imm ∧ j = .sw off rs2 0) ∨
      (i = .sd rs1 rs2 imm ∧ j = .sd off rs2 0) ∨
      (i = .lrW aq rl rd rs1 ∧ j = .lrW aq rl rd off) ∨
      (i = .scW aq rl rd rs1 rs2 ∧ j = .scW aq rl rd off rs2) ∨
      (i = .amoswapW aq rl rd rs1 rs2 ∧ j = .amoswapW aq rl rd off rs2) ∨
      (i = .amoaddW aq rl rd rs1 rs2 ∧ j = .amoaddW aq rl rd off rs2) ∨
      (i = .amoxorW aq rl rd rs1 rs2 ∧ j = .amoxorW aq rl rd off rs2) ∨
      (i = .amoandW aq rl rd rs1 rs2 ∧ j = .amoandW aq rl rd off rs2) ∨
      (i = .amoorW aq rl rd rs1 rs2 ∧ j = .amoorW aq rl rd off rs2) ∨
      (i = .amominW aq rl rd rs1 rs2 ∧ j = .amominW aq rl rd off rs2) ∨
      (i = .amomaxW aq rl rd rs1 rs2 ∧ j = .amomaxW aq rl rd off rs2) ∨
      (i = .amominuW aq rl rd rs1 rs2 ∧ j = .amominuW aq rl rd off rs2) ∨
      (i = .amomaxuW aq rl rd rs1 rs2 ∧ j = .amomaxuW aq rl rd off rs2) ∨
      (i = .lrD aq rl rd rs1 ∧ j = .lrD aq rl rd off) ∨
      (i = .scD aq rl rd rs1 rs2 ∧ j = .scD aq rl rd off rs2) ∨
      (i = .amoswapD aq rl rd rs1 rs2 ∧ j = .amoswapD aq rl rd off rs2) ∨
      (i = .amoaddD aq rl rd rs1 rs2 ∧ j = .amoaddD aq rl rd off rs2) ∨
      (i = .amoxorD aq rl rd rs1 rs2 ∧ j = .amoxorD aq rl rd off rs2) ∨
      (i = .amoandD aq rl rd rs1 rs2 ∧ j = .amoandD aq rl rd off rs2) ∨
      (i = .amoorD aq rl rd rs1 rs2 ∧ j = .amoorD aq rl rd off rs2) ∨
      (i = .amominD aq rl rd rs1 rs2 ∧ j = .amominD aq rl rd off rs2) ∨
      (i = .amomaxD aq rl rd rs1 rs2 ∧ j = .amomaxD aq rl rd off rs2) ∨
      (i = .amominuD aq rl rd rs1 rs2 ∧ j = .amominuD aq rl rd off rs2) ∨
      (i = .amomaxuD aq rl rd rs1 rs2 ∧ j = .amomaxuD aq rl rd off rs2) ∨
      (i = .hlvB rd rs1 ∧ j = .hlvB rd off) ∨
      (i = .hlvBu rd rs1 ∧ j = .hlvBu rd off) ∨
      (i = .hlvH rd rs1 ∧ j = .hlvH rd off) ∨
      (i = .hlvHu rd rs1 ∧ j = .hlvHu rd off) ∨
      (i = .hlvxHu rd rs1 ∧ j = .hlvxHu rd off) ∨
      (i = .hlvW rd rs1 ∧ j = .hlvW rd off) ∨
      (i = .hlvWu rd rs1 ∧ j = .hlvWu rd off) ∨
      (i = .hlvxWu rd rs1 ∧ j = .hlvxWu rd off) ∨
      (i = .hlvD rd rs1 ∧ j = .hlvD rd off) ∨
      (i = .hsvB rs1 rs2 ∧ j = .hsvB off rs2) ∨
      (i = .hsvH rs1 rs2 ∧ j = .hsvH off rs2) ∨
      (i = .hsvW rs1 rs2 ∧ j = .hsvW off rs2) ∨
      (i = .hsvD rs1 rs2 ∧ j = .hsvD off rs2)) →
    transform (encode i) off.toNat = encode j)

/-- R340 with R862, R905 and R907: what the exceptions of explicit accesses report, and that the instruction takes them. That an
access is split at a 4 KiB boundary and nowhere else, so that the trap value is the effective address or the start of the second
page, is read so by the model (entry 24). -/
def Obligations.RefusedAccessesTrap : Prop :=
  ∀ (s t : State) (rd rs1 rs2 : Reg) (imm : BitVec 12) (aq rl : Bool) (i : Instr) (via : Via) (u : PmaUse) (n : Nat) (ea : Word)
    (e : Exc),
    ((i = .lb rd rs1 imm ∧ via = .plain ∧ u = .load ∧ n = 1 ∧ ea = effAddr s rs1 imm) ∨
      (i = .lh rd rs1 imm ∧ via = .plain ∧ u = .load ∧ n = 2 ∧ ea = effAddr s rs1 imm) ∨
      (i = .lw rd rs1 imm ∧ via = .plain ∧ u = .load ∧ n = 4 ∧ ea = effAddr s rs1 imm) ∨
      (i = .lbu rd rs1 imm ∧ via = .plain ∧ u = .load ∧ n = 1 ∧ ea = effAddr s rs1 imm) ∨
      (i = .lhu rd rs1 imm ∧ via = .plain ∧ u = .load ∧ n = 2 ∧ ea = effAddr s rs1 imm) ∨
      (i = .ld rd rs1 imm ∧ via = .plain ∧ u = .load ∧ n = 8 ∧ ea = effAddr s rs1 imm) ∨
      (i = .lwu rd rs1 imm ∧ via = .plain ∧ u = .load ∧ n = 4 ∧ ea = effAddr s rs1 imm) ∨
      (i = .sb rs1 rs2 imm ∧ via = .plain ∧ u = .store ∧ n = 1 ∧ ea = effAddr s rs1 imm) ∨
      (i = .sh rs1 rs2 imm ∧ via = .plain ∧ u = .store ∧ n = 2 ∧ ea = effAddr s rs1 imm) ∨
      (i = .sw rs1 rs2 imm ∧ via = .plain ∧ u = .store ∧ n = 4 ∧ ea = effAddr s rs1 imm) ∨
      (i = .sd rs1 rs2 imm ∧ via = .plain ∧ u = .store ∧ n = 8 ∧ ea = effAddr s rs1 imm) ∨
      (i = .lrW aq rl rd rs1 ∧ via = .plain ∧ u = .lr ∧ n = 4 ∧ ea = rX s rs1) ∨
      (i = .scW aq rl rd rs1 rs2 ∧ via = .plain ∧ u = .sc ∧ n = 4 ∧ ea = rX s rs1) ∨
      (i = .amoswapW aq rl rd rs1 rs2 ∧ via = .plain ∧ u = .amo .swap ∧ n = 4 ∧ ea = rX s rs1) ∨
      (i = .amoaddW aq rl rd rs1 rs2 ∧ via = .plain ∧ u = .amo .add ∧ n = 4 ∧ ea = rX s rs1) ∨
      (i = .amoxorW aq rl rd rs1 rs2 ∧ via = .plain ∧ u = .amo .xor ∧ n = 4 ∧ ea = rX s rs1) ∨
      (i = .amoandW aq rl rd rs1 rs2 ∧ via = .plain ∧ u = .amo .and ∧ n = 4 ∧ ea = rX s rs1) ∨
      (i = .amoorW aq rl rd rs1 rs2 ∧ via = .plain ∧ u = .amo .or ∧ n = 4 ∧ ea = rX s rs1) ∨
      (i = .amominW aq rl rd rs1 rs2 ∧ via = .plain ∧ u = .amo .min ∧ n = 4 ∧ ea = rX s rs1) ∨
      (i = .amomaxW aq rl rd rs1 rs2 ∧ via = .plain ∧ u = .amo .max ∧ n = 4 ∧ ea = rX s rs1) ∨
      (i = .amominuW aq rl rd rs1 rs2 ∧ via = .plain ∧ u = .amo .minu ∧ n = 4 ∧ ea = rX s rs1) ∨
      (i = .amomaxuW aq rl rd rs1 rs2 ∧ via = .plain ∧ u = .amo .maxu ∧ n = 4 ∧ ea = rX s rs1) ∨
      (i = .lrD aq rl rd rs1 ∧ via = .plain ∧ u = .lr ∧ n = 8 ∧ ea = rX s rs1) ∨
      (i = .scD aq rl rd rs1 rs2 ∧ via = .plain ∧ u = .sc ∧ n = 8 ∧ ea = rX s rs1) ∨
      (i = .amoswapD aq rl rd rs1 rs2 ∧ via = .plain ∧ u = .amo .swap ∧ n = 8 ∧ ea = rX s rs1) ∨
      (i = .amoaddD aq rl rd rs1 rs2 ∧ via = .plain ∧ u = .amo .add ∧ n = 8 ∧ ea = rX s rs1) ∨
      (i = .amoxorD aq rl rd rs1 rs2 ∧ via = .plain ∧ u = .amo .xor ∧ n = 8 ∧ ea = rX s rs1) ∨
      (i = .amoandD aq rl rd rs1 rs2 ∧ via = .plain ∧ u = .amo .and ∧ n = 8 ∧ ea = rX s rs1) ∨
      (i = .amoorD aq rl rd rs1 rs2 ∧ via = .plain ∧ u = .amo .or ∧ n = 8 ∧ ea = rX s rs1) ∨
      (i = .amominD aq rl rd rs1 rs2 ∧ via = .plain ∧ u = .amo .min ∧ n = 8 ∧ ea = rX s rs1) ∨
      (i = .amomaxD aq rl rd rs1 rs2 ∧ via = .plain ∧ u = .amo .max ∧ n = 8 ∧ ea = rX s rs1) ∨
      (i = .amominuD aq rl rd rs1 rs2 ∧ via = .plain ∧ u = .amo .minu ∧ n = 8 ∧ ea = rX s rs1) ∨
      (i = .amomaxuD aq rl rd rs1 rs2 ∧ via = .plain ∧ u = .amo .maxu ∧ n = 8 ∧ ea = rX s rs1) ∨
      (i = .hlvB rd rs1 ∧ via = .guest ∧ u = .load ∧ n = 1 ∧ ea = rX s rs1) ∨
      (i = .hlvBu rd rs1 ∧ via = .guest ∧ u = .load ∧ n = 1 ∧ ea = rX s rs1) ∨
      (i = .hlvH rd rs1 ∧ via = .guest ∧ u = .load ∧ n = 2 ∧ ea = rX s rs1) ∨
      (i = .hlvHu rd rs1 ∧ via = .guest ∧ u = .load ∧ n = 2 ∧ ea = rX s rs1) ∨
      (i = .hlvxHu rd rs1 ∧ via = .guest ∧ u = .hlvx ∧ n = 2 ∧ ea = rX s rs1) ∨
      (i = .hlvW rd rs1 ∧ via = .guest ∧ u = .load ∧ n = 4 ∧ ea = rX s rs1) ∨
      (i = .hlvWu rd rs1 ∧ via = .guest ∧ u = .load ∧ n = 4 ∧ ea = rX s rs1) ∨
      (i = .hlvxWu rd rs1 ∧ via = .guest ∧ u = .hlvx ∧ n = 4 ∧ ea = rX s rs1) ∨
      (i = .hlvD rd rs1 ∧ via = .guest ∧ u = .load ∧ n = 8 ∧ ea = rX s rs1) ∨
      (i = .hsvB rs1 rs2 ∧ via = .guest ∧ u = .store ∧ n = 1 ∧ ea = rX s rs1) ∨
      (i = .hsvH rs1 rs2 ∧ via = .guest ∧ u = .store ∧ n = 2 ∧ ea = rX s rs1) ∨
      (i = .hsvW rs1 rs2 ∧ via = .guest ∧ u = .store ∧ n = 4 ∧ ea = rX s rs1) ∨
      (i = .hsvD rs1 rs2 ∧ via = .guest ∧ u = .store ∧ n = 8 ∧ ea = rX s rs1)) →
    i.available s.cfg = true → (via = .guest → guestAccessDenied s = none) → access s via u ea n = .trap e t →
    exec i s = .next (raise t (encode i) e) ∧
    (useAcc u = .store → e.cause ∈ [6, 7, 15, 23]) ∧ (useAcc u ≠ .store → e.cause ∈ [4, 5, 13, 21]) ∧
    e.gva = (match via with
      | .guest => true
      | .plain => (dataMode s).2) ∧
    (e.tval = ea ∨ (ea.toNat % 4096 + n > 4096 ∧ e.tval = wrap s.cfg (ea + BitVec.ofNat 64 (4096 - ea.toNat % 4096)))) ∧
    e.off = (e.tval - ea).toNat ∧ (e.gpa ≠ 0 ∨ e.implicit ≠ none → e.cause = 21 ∨ e.cause = 23)

/-- The order of R855 over the condition of R854; that condition for each destination, from the registers as they read; and
R854 in M-mode over all pending interrupts. -/
def Obligations.InterruptsAreTakenInOrder : Prop :=
  (∀ (s : State) (i : Nat) (d : Dest),
    let order : List (Nat × Dest) :=
      [(11, .M), (3, .M), (7, .M), (9, .M), (1, .M), (5, .M), (9, .S), (1, .S), (5, .S), (12, .S), (10, .S), (2, .S),
       (6, .S), (10, .VS), (2, .VS), (6, .VS)]
    pendingInterrupt s = some (i, d) ↔
      ∃ before later, order = before ++ (i, d) :: later ∧ takeable s d i = true ∧
        ∀ e ∈ before, takeable s e.2 e.1 = false) ∧
  (∀ (s : State) (i : Nat),
    let on := (csrRead s .mip).getLsbD i = true ∧ (csrRead s .mie).getLsbD i = true
    let md := (csrRead s .mideleg).getLsbD i = true
    let hd := (csrRead s .hideleg).getLsbD i = true
    (takeable s .M i = true ↔ on ∧ ¬ (s.cfg.hasS = true ∧ md) ∧ (s.priv ≠ .M ∨ mstatusBit s MIE = true)) ∧
    (takeable s .S i = true ↔ s.cfg.hasS = true ∧ on ∧ md ∧ ¬ (s.cfg.hasH = true ∧ hd) ∧
      (s.priv = .U ∨ (s.priv = .S ∧ (s.virt = true ∨ mstatusBit s SIE = true)))) ∧
    (takeable s .VS i = true ↔ s.cfg.hasH = true ∧ on ∧ md ∧ hd ∧ s.virt = true ∧
      (s.priv = .U ∨ (s.priv = .S ∧ vsstatusBit s SIE = true)))) ∧
  (∀ s : State, s.priv = .M →
    (mstatusBit s MIE = false → pendingInterrupt s = none) ∧
    (∀ i d, pendingInterrupt s = some (i, d) → d = .M ∧ mstatusBit s MIE = true ∧ (csrRead s .mie).getLsbD i = true ∧
      (csrRead s .mip).getLsbD i = true ∧ (s.cfg.hasS = true → (csrRead s .mideleg).getLsbD i = false)))

/-- R870, R749. -/
def Obligations.NmiIsTakenFirst : Prop :=
  ∀ s : State, s.inputs = [] → s.plat.nmi = true → s.cfg.nmiCause < 2 ^ (s.cfg.xlen - 1) →
    ∃ t, step s = .next t ∧ t.priv = .M ∧ t.virt = false ∧ t.pc = wrap s.cfg s.cfg.nmiVector ∧ t.m.mepc = s.pc ∧
      t.m.mcause.toNat = 2 ^ (s.cfg.xlen - 1) + s.cfg.nmiCause ∧ t.m.mtval = 0 ∧ mstatusBit t MIE = false ∧
      mstatusBit t MPIE = mstatusBit s MIE ∧ mpp t = s.priv ∧ t.stalled = false ∧ sameRegs s t ∧ sameBytes s t

/-- The step in the model's own names: `fetch`, `decode`, `exec`, `tick`. -/
def Obligations.StepRunsTheDecodedInstruction : Prop :=
  ∀ (s s1 : State) (w : Inst), s.inputs = [] → boundaryTrap s = none → s.stalled = false →
    (fetch s = .ok w s1 →
      (∀ i, decode w = some i → step s = after s (exec i s1)) ∧
      (decode w = none → step s = .next (tick s (raise s1 w (illegalExc w))))) ∧
    (∀ e, fetch s = .trap e s1 → step s = .next (tick s (raise s1 0 e)))

/-- R341, R338. -/
def Obligations.FetchReadsMemoryAtPc : Prop :=
  ∀ s : State, s.priv = .M → s.virt = false → s.istale = [] → s.pmpStale = [] →
    pmaAllows s.cfg .pma s.pc.toNat 4 4 .exec = true → isIo s.cfg s.pc.toNat 4 = false →
    pmpCheck s.cfg s.pmp s.pc.toNat 4 .exec .M = true →
    fetch s = .ok (BitVec.ofNat 32 (littleValue s.mem s.pc.toNat 4)) s

/-- Clause (5) of R861 and R804 over the whole instruction set. -/
def Obligations.OnlyReturnsLowerThePrivilege : Prop :=
  ∀ (i : Instr) (s t : State), i ≠ .mret → i ≠ .sret → exec i s = .next t →
    s.priv.code ≤ t.priv.code ∧ (t.virt = true → s.virt = true)

/-- The privilege rules taken together: user mode reaches control state through a trap alone. -/
def Obligations.UserModeChangesNoControlState : Prop :=
  ∀ (i : Instr) (s t : State), s.priv = .U → exec i s = .next t → t.priv = .U →
    t.m = { s.m with minstret := t.m.minstret } ∧ t.sv = s.sv ∧ t.h = s.h ∧ t.vs = s.vs ∧ t.pmp = s.pmp ∧
    t.pmpStale = s.pmpStale ∧ t.pmpStaleG = s.pmpStaleG ∧ t.virt = s.virt ∧ t.cfg = s.cfg

/-- R413, by the first matching entry; the ranges of R408 with the granularity of R410. -/
def Obligations.PmpEntriesDecide : Prop :=
  (∀ (c : Config) (p : Pmp) (a n : Nat) (ty : Acc) (m : Priv), c.pmpEntries = 16 ∨ c.pmpEntries = 64 →
    ((∀ i : Fin 64, i.val < c.pmpEntries → rangeTouches (pmpRange c p i) a n = false) →
      pmpCheck c p a n ty m = decide (m = .M)) ∧
    (∀ i : Fin 64, i.val < c.pmpEntries → rangeTouches (pmpRange c p i) a n = true →
      (∀ j : Fin 64, j.val < i.val → rangeTouches (pmpRange c p j) a n = false) →
      pmpCheck c p a n ty m =
        (rangeCovers (pmpRange c p i) a n && (pmpPermits (p.cfg.get i) ty || (decide (m = .M) && !pmpL (p.cfg.get i)))))) ∧
  (∀ (c : Config) (p : Pmp) (i : Fin 64) (y : Nat), c.pmpG < c.xlen →
    let addr (j : Fin 64) := (p.addr.get j).toNat % 2 ^ min (c.palen - 2) c.xlen
    let g := 2 ^ c.pmpG
    let matched := rangeTouches (pmpRange c p i) y 1 = true
    (pmpA (p.cfg.get i) = 0 → ¬ matched) ∧
    (pmpA (p.cfg.get i) = 1 →
      (i.val = 0 → (matched ↔ y < addr i / g * g * 4)) ∧
      (∀ j : Fin 64, j.val + 1 = i.val → (matched ↔ addr j / g * g * 4 ≤ y ∧ y < addr i / g * g * 4))) ∧
    (pmpA (p.cfg.get i) = 2 → c.pmpG = 0 → (matched ↔ addr i * 4 ≤ y ∧ y < addr i * 4 + 4)) ∧
    (pmpA (p.cfg.get i) = 3 → ∀ t : Nat, t ≤ c.xlen →
      let a := if c.pmpG < 2 then addr i else addr i / 2 ^ (c.pmpG - 1) * 2 ^ (c.pmpG - 1) + (2 ^ (c.pmpG - 1) - 1)
      a % 2 ^ t = 2 ^ t - 1 → (t < c.xlen → a.testBit t = false) →
      let base := a / 2 ^ (t + 1) * 2 ^ (t + 1) * 4
      (matched ↔ base ≤ y ∧ y < base + 2 ^ (t + 3)))) ∧
  (∀ (r : Nat × Nat) (a n : Nat), 0 < n →
    (rangeTouches r a n = true ↔ ∃ y, a ≤ y ∧ y < a + n ∧ r.1 ≤ y ∧ y < r.2) ∧
    (rangeCovers r a n = true ↔ ∀ y, a ≤ y → y < a + n → r.1 ≤ y ∧ y < r.2))

/-- Step 8 of R448 at every level, scheme and stage. -/
def Obligations.TranslationKeepsThePageOffset : Prop :=
  ∀ (s s1 : State) (r : Req) (m : Mapping), translate s r = .ok m s1 → m.pa % 4096 = r.va.toNat % 4096

/-- R431 and the Bare rows of R480; R450 to R452. -/
def Obligations.BareIsIdentityAndNonCanonicalFaults : Prop :=
  (∀ (s : State) (r : Req),
    (r.priv = .M ∨ (r.virt = false ∧ atpMode s.cfg (satpRead s) = 0) ∨
      (r.virt = true ∧ atpMode s.cfg (vsatpRead s) = 0 ∧ atpMode s.cfg (hgatpRead s) = 0)) →
    translate s r = .ok { pa := r.va.toNat, pbmt := .pma } s) ∧
  (∀ (s : State) (r : Req) (bits : Nat), s.cfg.rv64 = true → s.cfg.hasS = true → r.priv ≠ .M → r.virt = false →
    ((atpMode s.cfg (satpRead s) = 8 ∧ bits = 39) ∨ (atpMode s.cfg (satpRead s) = 9 ∧ bits = 48) ∨
      (atpMode s.cfg (satpRead s) = 10 ∧ bits = 57)) →
    (r.va.toInt < -2 ^ (bits - 1) ∨ 2 ^ (bits - 1) ≤ r.va.toInt) →
    translate s r = .trap (r.exc (pageFault r.acc) 0 none) s)

/-- Steps 1 to 6 and 8 of R448 at one entry, and its step 7 in the page-fault scheme, with R446, R447, R449, R460 and R462, in
the bits of the entry. `loc` finds the entry's physical address. The walk's fault is a page fault or, at the G stage, a
guest-page fault. -/
def Obligations.WalkStepsDecide : Prop :=
  (∀ (s : State) (r : Req) (w : Walk) (loc : State → Nat → Bool → Res Mapping),
    walk s r w loc = walkFrom r w loc (w.levels - 1) s w.root false) ∧
  ∀ (r : Req) (w : Walk) (loc : State → Nat → Bool → Res Mapping) (s s1 : State) (i a : Nat) (g : Bool) (pte : Word),
    let q := a + w.vpn i * w.pteSize
    tcValues s w q i = [] → ((loc s q false).bind fun m t => pteRead r w t m) = .ok pte s1 → s1.cfg.adUpdate = false →
    let out := walkFrom r w loc i s a g
    let t := tcAdd s1 w q i g pte
    let fault : Res Mapping := .trap (w.fault r) t
    let b := pte.getLsbD
    let leaf := b 1 = true ∨ b 3 = true
    let ppn := pte.toNat / 2 ^ 10 % (if w.pteSize = 4 then 2 ^ 22 else 2 ^ 44)
    let pbmt := pte.toNat / 2 ^ 61 % 4
    let napot := w.pteSize = 8 ∧ b 63 = true
    let valid := b 0 = true ∧ (b 1 = true ∨ b 2 = false) ∧
      (w.pteSize = 8 → pte.toNat / 2 ^ 54 % 2 ^ 7 = 0 ∧
        (pbmt ≠ 0 → s1.cfg.extSvpbmt = true ∧ w.pbmt = true ∧ leaf ∧ pbmt ≠ 3) ∧
        (b 63 = true → s1.cfg.extSvnapot = true ∧ leaf ∧ i = 0 ∧ ppn % 16 = 8))
    let typed := match w.acc with
      | .exec => b 3 = true
      | .hlvx => b 3 = true
      | .load => b 1 = true ∨ (w.mxr = true ∧ b 3 = true)
      | .store => b 2 = true
    let allowed := typed ∧ (w.user = true → b 4 = true) ∧ (w.user = false → b 4 = true → w.acc ≠ .exec ∧ w.sum = true)
    let low := 2 ^ (w.vpnBits * i)
    let marked := b 6 = true ∧ (w.acc = .store → b 7 = true)
    let page := if napot then ppn / 16 * 16 + w.addr / 4096 % 16 else ppn / low * low
    (¬ valid → out = fault) ∧
    (valid → ¬ leaf → i = 0 → out = fault) ∧
    (valid → ¬ leaf → i ≠ 0 → out = walkFrom r w loc (i - 1) t (ppn * 4096) (g || b 5)) ∧
    (valid → leaf → (¬ allowed ∨ ppn % low ≠ 0 ∨ ¬ marked) → out = fault) ∧
    (valid → leaf → allowed → ppn % low = 0 → marked →
      out = .ok { pa := page * 4096 + w.addr % (4096 * low),
                  pbmt := if w.pteSize = 4 ∨ pbmt = 0 then .pma else if pbmt = 1 then .nc else .io } t)

/-- R446, scheme (2), and step 7 of R448. What the walk makes of the entry read again is the return to step 2 (entry 38). -/
def Obligations.HardwareSetsAccessedAndDirty : Prop :=
  (∀ (c : Config) (r : Req) (w : Walk) (i : Nat) (pte : Word),
    (pteUse c r w i pte = .mark ↔
      pteValid c w i pte = true ∧ pteLeaf pte = true ∧ pteAllows w pte = true ∧ pteAligned w i pte = true ∧
      (pte.getLsbD 6 = false ∨ (w.acc = .store ∧ pte.getLsbD 7 = false)) ∧ c.adUpdate = true ∧ mayMark r w pte = true) ∧
    (r.spec = false → mayMark r w pte = true) ∧
    (r.spec = true → w.acc = .store → pte.getLsbD 7 = false → mayMark r w pte = false)) ∧
  ∀ (r : Req) (w : Walk) (loc : State → Nat → Bool → Res Mapping) (s t : State) (i a : Nat) (g : Bool) (pte : Word),
    let q := a + w.vpn i * w.pteSize
    let n := w.pteSize
    let out := walkFrom r w loc i s a g
    let set (v : Word) := v.toNat ||| 64 ||| if w.acc = .store then 128 else 0
    pteFetch s w q i g (fun u p => (loc u p false).bind fun m u1 => pteRead r w u1 m) = .ok pte t →
    pteUse t.cfg r w i pte = .mark →
    (∀ e u, loc t q true = .trap e u → out = .trap e u) ∧
    (∀ m t1, loc t q true = .ok m t1 →
      (∀ e u, pteStorable r w t1 m = .trap e u → e = r.exc (accessFault r.acc) 0 none ∧ out = .trap e u) ∧
      ∀ t2 now t3, pteStorable r w t1 m = .ok () t2 → pteRead r w t2 m = .ok now t3 →
        let stores (v : Word) := isIo t3.cfg m.pa n = false → Memory.wf t3.mem = true →
          ∃ u, out = .ok (leafMapping w i v) u ∧ stored t3 u w.big m.pa n (set v) ∧
            u.regs = t3.regs ∧ u.m = t3.m ∧ u.plat = t3.plat ∧ u.resv = t3.resv
        (now = pte → stores pte) ∧
        (now ≠ pte →
          match pteUse t3.cfg r w i now with
          | .fault => ∃ u, out = .trap (w.fault r) u ∧ u.mem = t.mem ∧ u.plat = t.plat
          | .table => ∃ u, out = walkFrom r w loc (i - 1) u (ptePpn w now * 4096) (g || now.getLsbD 5) ∧
              u.mem = t.mem ∧ u.plat = t.plat
          | .leaf => ∃ u, out = .ok (leafMapping w i now) u ∧ u.mem = t.mem ∧ u.plat = t.plat
          | .mark => stores now))

/-- R483, R484 and the gpa of R905. -/
def Obligations.GuestStageFaults : Prop :=
  ∀ (s : State) (r : Req) (gpa : Nat) (implicit : Option Bool),
    let mode := atpMode s.cfg (hgatpRead s)
    let acc : Acc := match implicit with
      | none => r.acc
      | some true => .store
      | some false => .load
    (mode = 0 → gStage s r gpa implicit = .ok { pa := gpa, pbmt := .pma } s) ∧
    (∀ bits, (mode, bits) ∈ [(1, 34), (8, 41), (9, 50), (10, 59)] → 2 ^ bits ≤ gpa →
      gStage s r gpa implicit = .trap (r.exc (guestPageFault r.acc) gpa implicit) s) ∧
    (∀ e t, gStage s r gpa implicit = .trap e t → e.tval = r.va ∧ e.gva = r.virt ∧
      (e = r.exc (guestPageFault r.acc) gpa implicit ∨ e = r.exc (accessFault r.acc) 0 none)) ∧
    (∀ bits levels, (mode, bits, levels) ∈ [(1, 34, 2), (8, 41, 3), (9, 50, 4), (10, 59, 5)] → gpa < 2 ^ bits →
      ∃ w : Walk, gStage s r gpa implicit = walk s r w physLoc ∧
        w.stage = .g ∧ w.levels = levels ∧ w.addr = gpa ∧ w.acc = acc ∧ w.user = true ∧ w.sum = false ∧
        w.mxr = (csrRead s .mstatus).getLsbD 19 ∧ w.vmid = vmidOf s ∧ w.implicit = implicit ∧
        w.root = getField (csrRead s .hgatp) 0 (if s.cfg.rv64 then 44 else 22) * 4096 ∧ w = gWalk s gpa acc implicit) ∧
    (∀ m t, mode ≠ 0 → gStage s r gpa implicit = .ok m t → svLevels mode ≠ 0 →
      m.pa % 4096 = gpa % 4096 ∧ ∀ pte, pteAllows (gWalk s gpa acc implicit) pte = true → pte.getLsbD 4 = true)

/-- The function of R930 and msip's value of R931, for the first reset and for one during a run. What it leaves unspecified is
the model's choice (entries 2 and 15) and not stated. -/
def Obligations.ResetState : Prop :=
  ∀ (s : State) (t : State), (t = State.resetIn s.cfg ∨ t = resetHart s) →
    t.priv = .M ∧ t.virt = false ∧ t.pc = s.cfg.resetVector ∧ mstatusBit t MIE = false ∧ mstatusBit t MPRV = false ∧
    (s.cfg.mbe ≠ .one → mstatusBit t MBE = false) ∧ t.m.mcause = 0 ∧
    (∀ i : Fin 64, pmpA (t.pmp.cfg.get i) = 0 ∧ pmpL (t.pmp.cfg.get i) = false) ∧
    atpMode t.cfg (vsatpRead t) = 0 ∧ atpMode t.cfg (hgatpRead t) = 0 ∧ t.resv = none ∧ t.stalled = false ∧
    t.plat.msip = false

/-- The base case of `StepKeepsTheInvariant`. MPP at reset is the model's choice (entry 2). -/
def Obligations.ResetSatisfiesTheInvariant : Prop :=
  Inv State.reset

/-- The invariant of the whole machine, from every state; and misa is read-only and XLEN never changes. -/
def Obligations.StepKeepsTheInvariant : Prop :=
  (∀ s t : State, Inv s → step s = .next t → Inv t) ∧
  (∀ s t : State, step s = .next t → t.cfg = s.cfg)

/-- No bit of an encoding is dropped or shared by two instructions. -/
def Obligations.DecodeInvertsEncode : Prop :=
  ∀ i : Instr, i.wf = true → decode (encode i) = some i

/-- No reserved word is read as a neighbour (R516, R517). -/
def Obligations.EncodeInvertsDecode : Prop :=
  ∀ (w : Inst) (i : Instr), decode w = some i → i.wf = true ∧ encode i = w

/-- Words of the spec's own vectors. -/
def Obligations.WordsDecode : Prop :=
  decode 0xFFF00093 = some (.addi 1 0 0xFFF) ∧ decode 0x00C5A52F = some (.amoaddW false false 10 11 12) ∧
  decode 0x30200073 = some .mret ∧ decode 0x0080B183 = some (.ld 3 1 8) ∧ decode 0x6805C573 = some (.hlvW 10 11) ∧
  decode 0x00000000 = none ∧ decode 0xFFFFFFFF = none

/-- R503, whole, at ILEN = 32. -/
def Obligations.IllegalWordsTrap : Prop :=
  ∀ w : Inst, (w.extractLsb' 0 16 = 0 ∨ w = 0xFFFFFFFF) →
    decode w = none ∧
    ∀ s s1 : State, s.inputs = [] → boundaryTrap s = none → s.stalled = false → fetch s = .ok w s1 →
      step s = .next (tick s (raise s1 w (illegalExc w)))
end

