-- ==== Sys2Proof/Laws/State.lean ====
section
/-! SUPPORT. What each update of the state leaves in each field: cite these instead of unfolding a record update. -/

namespace Sys2Proof.Machine

/-! ### wX -/

@[simp] theorem wX_cfg (s : State) (r : Reg) (v : Word) : (wX s r v).cfg = s.cfg := by unfold wX; split <;> rfl
@[simp] theorem wX_pc (s : State) (r : Reg) (v : Word) : (wX s r v).pc = s.pc := by unfold wX; split <;> rfl
@[simp] theorem wX_priv (s : State) (r : Reg) (v : Word) : (wX s r v).priv = s.priv := by unfold wX; split <;> rfl
@[simp] theorem wX_virt (s : State) (r : Reg) (v : Word) : (wX s r v).virt = s.virt := by unfold wX; split <;> rfl
@[simp] theorem wX_m (s : State) (r : Reg) (v : Word) : (wX s r v).m = s.m := by unfold wX; split <;> rfl
@[simp] theorem wX_pmp (s : State) (r : Reg) (v : Word) : (wX s r v).pmp = s.pmp := by unfold wX; split <;> rfl
@[simp] theorem wX_sv (s : State) (r : Reg) (v : Word) : (wX s r v).sv = s.sv := by unfold wX; split <;> rfl
@[simp] theorem wX_h (s : State) (r : Reg) (v : Word) : (wX s r v).h = s.h := by unfold wX; split <;> rfl
@[simp] theorem wX_vs (s : State) (r : Reg) (v : Word) : (wX s r v).vs = s.vs := by unfold wX; split <;> rfl
@[simp] theorem wX_plat (s : State) (r : Reg) (v : Word) : (wX s r v).plat = s.plat := by unfold wX; split <;> rfl
@[simp] theorem wX_mem (s : State) (r : Reg) (v : Word) : (wX s r v).mem = s.mem := by unfold wX; split <;> rfl
@[simp] theorem wX_resv (s : State) (r : Reg) (v : Word) : (wX s r v).resv = s.resv := by unfold wX; split <;> rfl
@[simp] theorem wX_stalled (s : State) (r : Reg) (v : Word) : (wX s r v).stalled = s.stalled := by unfold wX; split <;> rfl
@[simp] theorem wX_tc (s : State) (r : Reg) (v : Word) : (wX s r v).tc = s.tc := by unfold wX; split <;> rfl
@[simp] theorem wX_istale (s : State) (r : Reg) (v : Word) : (wX s r v).istale = s.istale := by unfold wX; split <;> rfl
@[simp] theorem wX_pmpStale (s : State) (r : Reg) (v : Word) : (wX s r v).pmpStale = s.pmpStale := by unfold wX; split <;> rfl
@[simp] theorem wX_pmpStaleG (s : State) (r : Reg) (v : Word) : (wX s r v).pmpStaleG = s.pmpStaleG := by unfold wX; split <;> rfl
@[simp] theorem wX_inputs (s : State) (r : Reg) (v : Word) : (wX s r v).inputs = s.inputs := by unfold wX; split <;> rfl
@[simp] theorem wX_draws (s : State) (r : Reg) (v : Word) : (wX s r v).draws = s.draws := by unfold wX; split <;> rfl

/-! ### setPc -/

@[simp] theorem setPc_cfg (s : State) (t : Word) : (setPc s t).cfg = s.cfg := rfl
@[simp] theorem setPc_regs (s : State) (t : Word) : (setPc s t).regs = s.regs := rfl
@[simp] theorem setPc_pc (s : State) (t : Word) : (setPc s t).pc = wrap s.cfg t := rfl
@[simp] theorem setPc_priv (s : State) (t : Word) : (setPc s t).priv = s.priv := rfl
@[simp] theorem setPc_virt (s : State) (t : Word) : (setPc s t).virt = s.virt := rfl
@[simp] theorem setPc_m (s : State) (t : Word) : (setPc s t).m = s.m := rfl
@[simp] theorem setPc_pmp (s : State) (t : Word) : (setPc s t).pmp = s.pmp := rfl
@[simp] theorem setPc_sv (s : State) (t : Word) : (setPc s t).sv = s.sv := rfl
@[simp] theorem setPc_h (s : State) (t : Word) : (setPc s t).h = s.h := rfl
@[simp] theorem setPc_vs (s : State) (t : Word) : (setPc s t).vs = s.vs := rfl
@[simp] theorem setPc_plat (s : State) (t : Word) : (setPc s t).plat = s.plat := rfl
@[simp] theorem setPc_mem (s : State) (t : Word) : (setPc s t).mem = s.mem := rfl
@[simp] theorem setPc_resv (s : State) (t : Word) : (setPc s t).resv = s.resv := rfl
@[simp] theorem setPc_stalled (s : State) (t : Word) : (setPc s t).stalled = s.stalled := rfl
@[simp] theorem setPc_tc (s : State) (t : Word) : (setPc s t).tc = s.tc := rfl
@[simp] theorem setPc_istale (s : State) (t : Word) : (setPc s t).istale = s.istale := rfl
@[simp] theorem setPc_pmpStale (s : State) (t : Word) : (setPc s t).pmpStale = s.pmpStale := rfl
@[simp] theorem setPc_pmpStaleG (s : State) (t : Word) : (setPc s t).pmpStaleG = s.pmpStaleG := rfl
@[simp] theorem setPc_inputs (s : State) (t : Word) : (setPc s t).inputs = s.inputs := rfl
@[simp] theorem setPc_draws (s : State) (t : Word) : (setPc s t).draws = s.draws := rfl

/-! ### retireCount -/

@[simp] theorem retireCount_cfg (s : State) : (retireCount s).cfg = s.cfg := by unfold retireCount; split <;> rfl
@[simp] theorem retireCount_regs (s : State) : (retireCount s).regs = s.regs := by unfold retireCount; split <;> rfl
@[simp] theorem retireCount_pc (s : State) : (retireCount s).pc = s.pc := by unfold retireCount; split <;> rfl
@[simp] theorem retireCount_priv (s : State) : (retireCount s).priv = s.priv := by unfold retireCount; split <;> rfl
@[simp] theorem retireCount_virt (s : State) : (retireCount s).virt = s.virt := by unfold retireCount; split <;> rfl
@[simp] theorem retireCount_pmp (s : State) : (retireCount s).pmp = s.pmp := by unfold retireCount; split <;> rfl
@[simp] theorem retireCount_sv (s : State) : (retireCount s).sv = s.sv := by unfold retireCount; split <;> rfl
@[simp] theorem retireCount_h (s : State) : (retireCount s).h = s.h := by unfold retireCount; split <;> rfl
@[simp] theorem retireCount_vs (s : State) : (retireCount s).vs = s.vs := by unfold retireCount; split <;> rfl
@[simp] theorem retireCount_plat (s : State) : (retireCount s).plat = s.plat := by unfold retireCount; split <;> rfl
@[simp] theorem retireCount_mem (s : State) : (retireCount s).mem = s.mem := by unfold retireCount; split <;> rfl
@[simp] theorem retireCount_resv (s : State) : (retireCount s).resv = s.resv := by unfold retireCount; split <;> rfl
@[simp] theorem retireCount_stalled (s : State) : (retireCount s).stalled = s.stalled := by unfold retireCount; split <;> rfl
@[simp] theorem retireCount_tc (s : State) : (retireCount s).tc = s.tc := by unfold retireCount; split <;> rfl
@[simp] theorem retireCount_istale (s : State) : (retireCount s).istale = s.istale := by unfold retireCount; split <;> rfl
@[simp] theorem retireCount_pmpStale (s : State) : (retireCount s).pmpStale = s.pmpStale := by unfold retireCount; split <;> rfl
@[simp] theorem retireCount_pmpStaleG (s : State) : (retireCount s).pmpStaleG = s.pmpStaleG := by unfold retireCount; split <;> rfl
@[simp] theorem retireCount_inputs (s : State) : (retireCount s).inputs = s.inputs := by unfold retireCount; split <;> rfl
@[simp] theorem retireCount_draws (s : State) : (retireCount s).draws = s.draws := by unfold retireCount; split <;> rfl

theorem retireCount_m (s : State) :
    (retireCount s).m =
      { s.m with minstret := if inhibited s 2 then s.m.minstret else s.m.minstret + 1 } := by
  unfold retireCount; split <;> rfl

/-! ### retireTo -/

@[simp] theorem retireTo_cfg (s : State) (t : Word) : (retireTo s t).cfg = s.cfg := by simp [retireTo]
@[simp] theorem retireTo_regs (s : State) (t : Word) : (retireTo s t).regs = s.regs := by simp [retireTo]
@[simp] theorem retireTo_priv (s : State) (t : Word) : (retireTo s t).priv = s.priv := by simp [retireTo]
@[simp] theorem retireTo_virt (s : State) (t : Word) : (retireTo s t).virt = s.virt := by simp [retireTo]
@[simp] theorem retireTo_pmp (s : State) (t : Word) : (retireTo s t).pmp = s.pmp := by simp [retireTo]
@[simp] theorem retireTo_sv (s : State) (t : Word) : (retireTo s t).sv = s.sv := by simp [retireTo]
@[simp] theorem retireTo_h (s : State) (t : Word) : (retireTo s t).h = s.h := by simp [retireTo]
@[simp] theorem retireTo_vs (s : State) (t : Word) : (retireTo s t).vs = s.vs := by simp [retireTo]
@[simp] theorem retireTo_plat (s : State) (t : Word) : (retireTo s t).plat = s.plat := by simp [retireTo]
@[simp] theorem retireTo_mem (s : State) (t : Word) : (retireTo s t).mem = s.mem := by simp [retireTo]
@[simp] theorem retireTo_resv (s : State) (t : Word) : (retireTo s t).resv = s.resv := by simp [retireTo]
@[simp] theorem retireTo_stalled (s : State) (t : Word) : (retireTo s t).stalled = s.stalled := by simp [retireTo]
@[simp] theorem retireTo_tc (s : State) (t : Word) : (retireTo s t).tc = s.tc := by simp [retireTo]
@[simp] theorem retireTo_istale (s : State) (t : Word) : (retireTo s t).istale = s.istale := by simp [retireTo]
@[simp] theorem retireTo_pmpStale (s : State) (t : Word) : (retireTo s t).pmpStale = s.pmpStale := by simp [retireTo]
@[simp] theorem retireTo_pmpStaleG (s : State) (t : Word) : (retireTo s t).pmpStaleG = s.pmpStaleG := by simp [retireTo]
@[simp] theorem retireTo_inputs (s : State) (t : Word) : (retireTo s t).inputs = s.inputs := by simp [retireTo]
@[simp] theorem retireTo_draws (s : State) (t : Word) : (retireTo s t).draws = s.draws := by simp [retireTo]

@[simp] theorem retireTo_pc (s : State) (t : Word) : (retireTo s t).pc = wrap s.cfg t := by simp [retireTo]

theorem retireTo_m (s : State) (t : Word) :
    (retireTo s t).m =
      { s.m with minstret := if inhibited s 2 then s.m.minstret else s.m.minstret + 1 } :=
  retireCount_m _

/-! ### setMstatus -/

@[simp] theorem setMstatus_cfg (s : State) (i : Nat) (b : Bool) : (setMstatus s i b).cfg = s.cfg := rfl
@[simp] theorem setMstatus_regs (s : State) (i : Nat) (b : Bool) : (setMstatus s i b).regs = s.regs := rfl
@[simp] theorem setMstatus_pc (s : State) (i : Nat) (b : Bool) : (setMstatus s i b).pc = s.pc := rfl
@[simp] theorem setMstatus_priv (s : State) (i : Nat) (b : Bool) : (setMstatus s i b).priv = s.priv := rfl
@[simp] theorem setMstatus_virt (s : State) (i : Nat) (b : Bool) : (setMstatus s i b).virt = s.virt := rfl
@[simp] theorem setMstatus_m (s : State) (i : Nat) (b : Bool) : (setMstatus s i b).m = { s.m with mstatus := setBit s.m.mstatus i b } := rfl
@[simp] theorem setMstatus_pmp (s : State) (i : Nat) (b : Bool) : (setMstatus s i b).pmp = s.pmp := rfl
@[simp] theorem setMstatus_sv (s : State) (i : Nat) (b : Bool) : (setMstatus s i b).sv = s.sv := rfl
@[simp] theorem setMstatus_h (s : State) (i : Nat) (b : Bool) : (setMstatus s i b).h = s.h := rfl
@[simp] theorem setMstatus_vs (s : State) (i : Nat) (b : Bool) : (setMstatus s i b).vs = s.vs := rfl
@[simp] theorem setMstatus_plat (s : State) (i : Nat) (b : Bool) : (setMstatus s i b).plat = s.plat := rfl
@[simp] theorem setMstatus_mem (s : State) (i : Nat) (b : Bool) : (setMstatus s i b).mem = s.mem := rfl
@[simp] theorem setMstatus_resv (s : State) (i : Nat) (b : Bool) : (setMstatus s i b).resv = s.resv := rfl
@[simp] theorem setMstatus_stalled (s : State) (i : Nat) (b : Bool) : (setMstatus s i b).stalled = s.stalled := rfl
@[simp] theorem setMstatus_tc (s : State) (i : Nat) (b : Bool) : (setMstatus s i b).tc = s.tc := rfl
@[simp] theorem setMstatus_istale (s : State) (i : Nat) (b : Bool) : (setMstatus s i b).istale = s.istale := rfl
@[simp] theorem setMstatus_pmpStale (s : State) (i : Nat) (b : Bool) : (setMstatus s i b).pmpStale = s.pmpStale := rfl
@[simp] theorem setMstatus_pmpStaleG (s : State) (i : Nat) (b : Bool) : (setMstatus s i b).pmpStaleG = s.pmpStaleG := rfl
@[simp] theorem setMstatus_inputs (s : State) (i : Nat) (b : Bool) : (setMstatus s i b).inputs = s.inputs := rfl
@[simp] theorem setMstatus_draws (s : State) (i : Nat) (b : Bool) : (setMstatus s i b).draws = s.draws := rfl

/-! ### setMpp -/

@[simp] theorem setMpp_cfg (s : State) (p : Priv) : (setMpp s p).cfg = s.cfg := rfl
@[simp] theorem setMpp_regs (s : State) (p : Priv) : (setMpp s p).regs = s.regs := rfl
@[simp] theorem setMpp_pc (s : State) (p : Priv) : (setMpp s p).pc = s.pc := rfl
@[simp] theorem setMpp_priv (s : State) (p : Priv) : (setMpp s p).priv = s.priv := rfl
@[simp] theorem setMpp_virt (s : State) (p : Priv) : (setMpp s p).virt = s.virt := rfl
@[simp] theorem setMpp_m (s : State) (p : Priv) : (setMpp s p).m = { s.m with mstatus := setField s.m.mstatus MPP 2 p.code } := rfl
@[simp] theorem setMpp_pmp (s : State) (p : Priv) : (setMpp s p).pmp = s.pmp := rfl
@[simp] theorem setMpp_sv (s : State) (p : Priv) : (setMpp s p).sv = s.sv := rfl
@[simp] theorem setMpp_h (s : State) (p : Priv) : (setMpp s p).h = s.h := rfl
@[simp] theorem setMpp_vs (s : State) (p : Priv) : (setMpp s p).vs = s.vs := rfl
@[simp] theorem setMpp_plat (s : State) (p : Priv) : (setMpp s p).plat = s.plat := rfl
@[simp] theorem setMpp_mem (s : State) (p : Priv) : (setMpp s p).mem = s.mem := rfl
@[simp] theorem setMpp_resv (s : State) (p : Priv) : (setMpp s p).resv = s.resv := rfl
@[simp] theorem setMpp_stalled (s : State) (p : Priv) : (setMpp s p).stalled = s.stalled := rfl
@[simp] theorem setMpp_tc (s : State) (p : Priv) : (setMpp s p).tc = s.tc := rfl
@[simp] theorem setMpp_istale (s : State) (p : Priv) : (setMpp s p).istale = s.istale := rfl
@[simp] theorem setMpp_pmpStale (s : State) (p : Priv) : (setMpp s p).pmpStale = s.pmpStale := rfl
@[simp] theorem setMpp_pmpStaleG (s : State) (p : Priv) : (setMpp s p).pmpStaleG = s.pmpStaleG := rfl
@[simp] theorem setMpp_inputs (s : State) (p : Priv) : (setMpp s p).inputs = s.inputs := rfl
@[simp] theorem setMpp_draws (s : State) (p : Priv) : (setMpp s p).draws = s.draws := rfl

/-! ### setHstatus -/

@[simp] theorem setHstatus_cfg (s : State) (i : Nat) (b : Bool) : (setHstatus s i b).cfg = s.cfg := rfl
@[simp] theorem setHstatus_regs (s : State) (i : Nat) (b : Bool) : (setHstatus s i b).regs = s.regs := rfl
@[simp] theorem setHstatus_pc (s : State) (i : Nat) (b : Bool) : (setHstatus s i b).pc = s.pc := rfl
@[simp] theorem setHstatus_priv (s : State) (i : Nat) (b : Bool) : (setHstatus s i b).priv = s.priv := rfl
@[simp] theorem setHstatus_virt (s : State) (i : Nat) (b : Bool) : (setHstatus s i b).virt = s.virt := rfl
@[simp] theorem setHstatus_m (s : State) (i : Nat) (b : Bool) : (setHstatus s i b).m = s.m := rfl
@[simp] theorem setHstatus_pmp (s : State) (i : Nat) (b : Bool) : (setHstatus s i b).pmp = s.pmp := rfl
@[simp] theorem setHstatus_sv (s : State) (i : Nat) (b : Bool) : (setHstatus s i b).sv = s.sv := rfl
@[simp] theorem setHstatus_h (s : State) (i : Nat) (b : Bool) : (setHstatus s i b).h = { s.h with hstatus := setBit s.h.hstatus i b } := rfl
@[simp] theorem setHstatus_vs (s : State) (i : Nat) (b : Bool) : (setHstatus s i b).vs = s.vs := rfl
@[simp] theorem setHstatus_plat (s : State) (i : Nat) (b : Bool) : (setHstatus s i b).plat = s.plat := rfl
@[simp] theorem setHstatus_mem (s : State) (i : Nat) (b : Bool) : (setHstatus s i b).mem = s.mem := rfl
@[simp] theorem setHstatus_resv (s : State) (i : Nat) (b : Bool) : (setHstatus s i b).resv = s.resv := rfl
@[simp] theorem setHstatus_stalled (s : State) (i : Nat) (b : Bool) : (setHstatus s i b).stalled = s.stalled := rfl
@[simp] theorem setHstatus_tc (s : State) (i : Nat) (b : Bool) : (setHstatus s i b).tc = s.tc := rfl
@[simp] theorem setHstatus_istale (s : State) (i : Nat) (b : Bool) : (setHstatus s i b).istale = s.istale := rfl
@[simp] theorem setHstatus_pmpStale (s : State) (i : Nat) (b : Bool) : (setHstatus s i b).pmpStale = s.pmpStale := rfl
@[simp] theorem setHstatus_pmpStaleG (s : State) (i : Nat) (b : Bool) : (setHstatus s i b).pmpStaleG = s.pmpStaleG := rfl
@[simp] theorem setHstatus_inputs (s : State) (i : Nat) (b : Bool) : (setHstatus s i b).inputs = s.inputs := rfl
@[simp] theorem setHstatus_draws (s : State) (i : Nat) (b : Bool) : (setHstatus s i b).draws = s.draws := rfl

/-! ### setVsstatus -/

@[simp] theorem setVsstatus_cfg (s : State) (i : Nat) (b : Bool) : (setVsstatus s i b).cfg = s.cfg := rfl
@[simp] theorem setVsstatus_regs (s : State) (i : Nat) (b : Bool) : (setVsstatus s i b).regs = s.regs := rfl
@[simp] theorem setVsstatus_pc (s : State) (i : Nat) (b : Bool) : (setVsstatus s i b).pc = s.pc := rfl
@[simp] theorem setVsstatus_priv (s : State) (i : Nat) (b : Bool) : (setVsstatus s i b).priv = s.priv := rfl
@[simp] theorem setVsstatus_virt (s : State) (i : Nat) (b : Bool) : (setVsstatus s i b).virt = s.virt := rfl
@[simp] theorem setVsstatus_m (s : State) (i : Nat) (b : Bool) : (setVsstatus s i b).m = s.m := rfl
@[simp] theorem setVsstatus_pmp (s : State) (i : Nat) (b : Bool) : (setVsstatus s i b).pmp = s.pmp := rfl
@[simp] theorem setVsstatus_sv (s : State) (i : Nat) (b : Bool) : (setVsstatus s i b).sv = s.sv := rfl
@[simp] theorem setVsstatus_h (s : State) (i : Nat) (b : Bool) : (setVsstatus s i b).h = s.h := rfl
@[simp] theorem setVsstatus_vs (s : State) (i : Nat) (b : Bool) : (setVsstatus s i b).vs = { s.vs with vsstatus := setBit s.vs.vsstatus i b } := rfl
@[simp] theorem setVsstatus_plat (s : State) (i : Nat) (b : Bool) : (setVsstatus s i b).plat = s.plat := rfl
@[simp] theorem setVsstatus_mem (s : State) (i : Nat) (b : Bool) : (setVsstatus s i b).mem = s.mem := rfl
@[simp] theorem setVsstatus_resv (s : State) (i : Nat) (b : Bool) : (setVsstatus s i b).resv = s.resv := rfl
@[simp] theorem setVsstatus_stalled (s : State) (i : Nat) (b : Bool) : (setVsstatus s i b).stalled = s.stalled := rfl
@[simp] theorem setVsstatus_tc (s : State) (i : Nat) (b : Bool) : (setVsstatus s i b).tc = s.tc := rfl
@[simp] theorem setVsstatus_istale (s : State) (i : Nat) (b : Bool) : (setVsstatus s i b).istale = s.istale := rfl
@[simp] theorem setVsstatus_pmpStale (s : State) (i : Nat) (b : Bool) : (setVsstatus s i b).pmpStale = s.pmpStale := rfl
@[simp] theorem setVsstatus_pmpStaleG (s : State) (i : Nat) (b : Bool) : (setVsstatus s i b).pmpStaleG = s.pmpStaleG := rfl
@[simp] theorem setVsstatus_inputs (s : State) (i : Nat) (b : Bool) : (setVsstatus s i b).inputs = s.inputs := rfl
@[simp] theorem setVsstatus_draws (s : State) (i : Nat) (b : Bool) : (setVsstatus s i b).draws = s.draws := rfl

/-! ### mstatusWrite -/

@[simp] theorem mstatusWrite_cfg (s : State) (k v : Word) : (mstatusWrite s k v).cfg = s.cfg := rfl
@[simp] theorem mstatusWrite_regs (s : State) (k v : Word) : (mstatusWrite s k v).regs = s.regs := rfl
@[simp] theorem mstatusWrite_pc (s : State) (k v : Word) : (mstatusWrite s k v).pc = s.pc := rfl
@[simp] theorem mstatusWrite_priv (s : State) (k v : Word) : (mstatusWrite s k v).priv = s.priv := rfl
@[simp] theorem mstatusWrite_virt (s : State) (k v : Word) : (mstatusWrite s k v).virt = s.virt := rfl
@[simp] theorem mstatusWrite_pmp (s : State) (k v : Word) : (mstatusWrite s k v).pmp = s.pmp := rfl
@[simp] theorem mstatusWrite_sv (s : State) (k v : Word) : (mstatusWrite s k v).sv = s.sv := rfl
@[simp] theorem mstatusWrite_h (s : State) (k v : Word) : (mstatusWrite s k v).h = s.h := rfl
@[simp] theorem mstatusWrite_vs (s : State) (k v : Word) : (mstatusWrite s k v).vs = s.vs := rfl
@[simp] theorem mstatusWrite_plat (s : State) (k v : Word) : (mstatusWrite s k v).plat = s.plat := rfl
@[simp] theorem mstatusWrite_mem (s : State) (k v : Word) : (mstatusWrite s k v).mem = s.mem := rfl
@[simp] theorem mstatusWrite_resv (s : State) (k v : Word) : (mstatusWrite s k v).resv = s.resv := rfl
@[simp] theorem mstatusWrite_stalled (s : State) (k v : Word) : (mstatusWrite s k v).stalled = s.stalled := rfl
@[simp] theorem mstatusWrite_tc (s : State) (k v : Word) : (mstatusWrite s k v).tc = s.tc := rfl
@[simp] theorem mstatusWrite_istale (s : State) (k v : Word) : (mstatusWrite s k v).istale = s.istale := rfl
@[simp] theorem mstatusWrite_pmpStale (s : State) (k v : Word) : (mstatusWrite s k v).pmpStale = s.pmpStale := rfl
@[simp] theorem mstatusWrite_pmpStaleG (s : State) (k v : Word) : (mstatusWrite s k v).pmpStaleG = s.pmpStaleG := rfl
@[simp] theorem mstatusWrite_inputs (s : State) (k v : Word) : (mstatusWrite s k v).inputs = s.inputs := rfl
@[simp] theorem mstatusWrite_draws (s : State) (k v : Word) : (mstatusWrite s k v).draws = s.draws := rfl

/-! ### storeBytes -/

@[simp] theorem storeBytes_cfg (s : State) (a : Nat) (bs : List Byte) : (storeBytes s a bs).cfg = s.cfg := rfl
@[simp] theorem storeBytes_regs (s : State) (a : Nat) (bs : List Byte) : (storeBytes s a bs).regs = s.regs := rfl
@[simp] theorem storeBytes_pc (s : State) (a : Nat) (bs : List Byte) : (storeBytes s a bs).pc = s.pc := rfl
@[simp] theorem storeBytes_priv (s : State) (a : Nat) (bs : List Byte) : (storeBytes s a bs).priv = s.priv := rfl
@[simp] theorem storeBytes_virt (s : State) (a : Nat) (bs : List Byte) : (storeBytes s a bs).virt = s.virt := rfl
@[simp] theorem storeBytes_m (s : State) (a : Nat) (bs : List Byte) : (storeBytes s a bs).m = s.m := rfl
@[simp] theorem storeBytes_pmp (s : State) (a : Nat) (bs : List Byte) : (storeBytes s a bs).pmp = s.pmp := rfl
@[simp] theorem storeBytes_sv (s : State) (a : Nat) (bs : List Byte) : (storeBytes s a bs).sv = s.sv := rfl
@[simp] theorem storeBytes_h (s : State) (a : Nat) (bs : List Byte) : (storeBytes s a bs).h = s.h := rfl
@[simp] theorem storeBytes_vs (s : State) (a : Nat) (bs : List Byte) : (storeBytes s a bs).vs = s.vs := rfl
@[simp] theorem storeBytes_plat (s : State) (a : Nat) (bs : List Byte) : (storeBytes s a bs).plat = s.plat := rfl
@[simp] theorem storeBytes_mem (s : State) (a : Nat) (bs : List Byte) : (storeBytes s a bs).mem = Memory.writeBytes s.mem a bs := rfl
@[simp] theorem storeBytes_resv (s : State) (a : Nat) (bs : List Byte) : (storeBytes s a bs).resv = s.resv := rfl
@[simp] theorem storeBytes_stalled (s : State) (a : Nat) (bs : List Byte) : (storeBytes s a bs).stalled = s.stalled := rfl
@[simp] theorem storeBytes_tc (s : State) (a : Nat) (bs : List Byte) : (storeBytes s a bs).tc = s.tc := rfl
@[simp] theorem storeBytes_istale (s : State) (a : Nat) (bs : List Byte) : (storeBytes s a bs).istale = staleWords s.mem (Memory.writeBytes s.mem a bs) a bs.length ++ s.istale := rfl
@[simp] theorem storeBytes_pmpStale (s : State) (a : Nat) (bs : List Byte) : (storeBytes s a bs).pmpStale = s.pmpStale := rfl
@[simp] theorem storeBytes_pmpStaleG (s : State) (a : Nat) (bs : List Byte) : (storeBytes s a bs).pmpStaleG = s.pmpStaleG := rfl
@[simp] theorem storeBytes_inputs (s : State) (a : Nat) (bs : List Byte) : (storeBytes s a bs).inputs = s.inputs := rfl
@[simp] theorem storeBytes_draws (s : State) (a : Nat) (bs : List Byte) : (storeBytes s a bs).draws = s.draws := rfl

/-! ### setDevice -/

@[simp] theorem setDevice_cfg (s : State) (d : DevReg) (v : Word) : (setDevice s d v).cfg = s.cfg := by unfold setDevice; split <;> first | rfl | (cases d <;> rfl)
@[simp] theorem setDevice_regs (s : State) (d : DevReg) (v : Word) : (setDevice s d v).regs = s.regs := by unfold setDevice; split <;> first | rfl | (cases d <;> rfl)
@[simp] theorem setDevice_pc (s : State) (d : DevReg) (v : Word) : (setDevice s d v).pc = s.pc := by unfold setDevice; split <;> first | rfl | (cases d <;> rfl)
@[simp] theorem setDevice_priv (s : State) (d : DevReg) (v : Word) : (setDevice s d v).priv = s.priv := by unfold setDevice; split <;> first | rfl | (cases d <;> rfl)
@[simp] theorem setDevice_virt (s : State) (d : DevReg) (v : Word) : (setDevice s d v).virt = s.virt := by unfold setDevice; split <;> first | rfl | (cases d <;> rfl)
@[simp] theorem setDevice_m (s : State) (d : DevReg) (v : Word) : (setDevice s d v).m = s.m := by unfold setDevice; split <;> first | rfl | (cases d <;> rfl)
@[simp] theorem setDevice_pmp (s : State) (d : DevReg) (v : Word) : (setDevice s d v).pmp = s.pmp := by unfold setDevice; split <;> first | rfl | (cases d <;> rfl)
@[simp] theorem setDevice_sv (s : State) (d : DevReg) (v : Word) : (setDevice s d v).sv = s.sv := by unfold setDevice; split <;> first | rfl | (cases d <;> rfl)
@[simp] theorem setDevice_h (s : State) (d : DevReg) (v : Word) : (setDevice s d v).h = s.h := by unfold setDevice; split <;> first | rfl | (cases d <;> rfl)
@[simp] theorem setDevice_vs (s : State) (d : DevReg) (v : Word) : (setDevice s d v).vs = s.vs := by unfold setDevice; split <;> first | rfl | (cases d <;> rfl)
@[simp] theorem setDevice_resv (s : State) (d : DevReg) (v : Word) : (setDevice s d v).resv = s.resv := by unfold setDevice; split <;> first | rfl | (cases d <;> rfl)
@[simp] theorem setDevice_stalled (s : State) (d : DevReg) (v : Word) : (setDevice s d v).stalled = s.stalled := by unfold setDevice; split <;> first | rfl | (cases d <;> rfl)
@[simp] theorem setDevice_tc (s : State) (d : DevReg) (v : Word) : (setDevice s d v).tc = s.tc := by unfold setDevice; split <;> first | rfl | (cases d <;> rfl)
@[simp] theorem setDevice_istale (s : State) (d : DevReg) (v : Word) : (setDevice s d v).istale = s.istale := by unfold setDevice; split <;> first | rfl | (cases d <;> rfl)
@[simp] theorem setDevice_pmpStale (s : State) (d : DevReg) (v : Word) : (setDevice s d v).pmpStale = s.pmpStale := by unfold setDevice; split <;> first | rfl | (cases d <;> rfl)
@[simp] theorem setDevice_pmpStaleG (s : State) (d : DevReg) (v : Word) : (setDevice s d v).pmpStaleG = s.pmpStaleG := by unfold setDevice; split <;> first | rfl | (cases d <;> rfl)
@[simp] theorem setDevice_inputs (s : State) (d : DevReg) (v : Word) : (setDevice s d v).inputs = s.inputs := by unfold setDevice; split <;> first | rfl | (cases d <;> rfl)
@[simp] theorem setDevice_draws (s : State) (d : DevReg) (v : Word) : (setDevice s d v).draws = s.draws := by unfold setDevice; split <;> first | rfl | (cases d <;> rfl)

/-! ### deviceWrite -/

@[simp] theorem deviceWrite_cfg (s : State) (d : DevReg) (off : Nat) (bs : List Byte) : (deviceWrite s d off bs).cfg = s.cfg := by simp [deviceWrite]
@[simp] theorem deviceWrite_regs (s : State) (d : DevReg) (off : Nat) (bs : List Byte) : (deviceWrite s d off bs).regs = s.regs := by simp [deviceWrite]
@[simp] theorem deviceWrite_pc (s : State) (d : DevReg) (off : Nat) (bs : List Byte) : (deviceWrite s d off bs).pc = s.pc := by simp [deviceWrite]
@[simp] theorem deviceWrite_priv (s : State) (d : DevReg) (off : Nat) (bs : List Byte) : (deviceWrite s d off bs).priv = s.priv := by simp [deviceWrite]
@[simp] theorem deviceWrite_virt (s : State) (d : DevReg) (off : Nat) (bs : List Byte) : (deviceWrite s d off bs).virt = s.virt := by simp [deviceWrite]
@[simp] theorem deviceWrite_m (s : State) (d : DevReg) (off : Nat) (bs : List Byte) : (deviceWrite s d off bs).m = s.m := by simp [deviceWrite]
@[simp] theorem deviceWrite_pmp (s : State) (d : DevReg) (off : Nat) (bs : List Byte) : (deviceWrite s d off bs).pmp = s.pmp := by simp [deviceWrite]
@[simp] theorem deviceWrite_sv (s : State) (d : DevReg) (off : Nat) (bs : List Byte) : (deviceWrite s d off bs).sv = s.sv := by simp [deviceWrite]
@[simp] theorem deviceWrite_h (s : State) (d : DevReg) (off : Nat) (bs : List Byte) : (deviceWrite s d off bs).h = s.h := by simp [deviceWrite]
@[simp] theorem deviceWrite_vs (s : State) (d : DevReg) (off : Nat) (bs : List Byte) : (deviceWrite s d off bs).vs = s.vs := by simp [deviceWrite]
@[simp] theorem deviceWrite_resv (s : State) (d : DevReg) (off : Nat) (bs : List Byte) : (deviceWrite s d off bs).resv = s.resv := by simp [deviceWrite]
@[simp] theorem deviceWrite_stalled (s : State) (d : DevReg) (off : Nat) (bs : List Byte) : (deviceWrite s d off bs).stalled = s.stalled := by simp [deviceWrite]
@[simp] theorem deviceWrite_tc (s : State) (d : DevReg) (off : Nat) (bs : List Byte) : (deviceWrite s d off bs).tc = s.tc := by simp [deviceWrite]
@[simp] theorem deviceWrite_istale (s : State) (d : DevReg) (off : Nat) (bs : List Byte) : (deviceWrite s d off bs).istale = s.istale := by simp [deviceWrite]
@[simp] theorem deviceWrite_pmpStale (s : State) (d : DevReg) (off : Nat) (bs : List Byte) : (deviceWrite s d off bs).pmpStale = s.pmpStale := by simp [deviceWrite]
@[simp] theorem deviceWrite_pmpStaleG (s : State) (d : DevReg) (off : Nat) (bs : List Byte) : (deviceWrite s d off bs).pmpStaleG = s.pmpStaleG := by simp [deviceWrite]
@[simp] theorem deviceWrite_inputs (s : State) (d : DevReg) (off : Nat) (bs : List Byte) : (deviceWrite s d off bs).inputs = s.inputs := by simp [deviceWrite]
@[simp] theorem deviceWrite_draws (s : State) (d : DevReg) (off : Nat) (bs : List Byte) : (deviceWrite s d off bs).draws = s.draws := by simp [deviceWrite]

/-! ### drawn -/

@[simp] theorem drawn_cfg (s : State) : (drawn s).cfg = s.cfg := rfl
@[simp] theorem drawn_regs (s : State) : (drawn s).regs = s.regs := rfl
@[simp] theorem drawn_pc (s : State) : (drawn s).pc = s.pc := rfl
@[simp] theorem drawn_priv (s : State) : (drawn s).priv = s.priv := rfl
@[simp] theorem drawn_virt (s : State) : (drawn s).virt = s.virt := rfl
@[simp] theorem drawn_m (s : State) : (drawn s).m = s.m := rfl
@[simp] theorem drawn_pmp (s : State) : (drawn s).pmp = s.pmp := rfl
@[simp] theorem drawn_sv (s : State) : (drawn s).sv = s.sv := rfl
@[simp] theorem drawn_h (s : State) : (drawn s).h = s.h := rfl
@[simp] theorem drawn_vs (s : State) : (drawn s).vs = s.vs := rfl
@[simp] theorem drawn_plat (s : State) : (drawn s).plat = s.plat := rfl
@[simp] theorem drawn_mem (s : State) : (drawn s).mem = s.mem := rfl
@[simp] theorem drawn_resv (s : State) : (drawn s).resv = s.resv := rfl
@[simp] theorem drawn_stalled (s : State) : (drawn s).stalled = s.stalled := rfl
@[simp] theorem drawn_tc (s : State) : (drawn s).tc = s.tc := rfl
@[simp] theorem drawn_istale (s : State) : (drawn s).istale = s.istale := rfl
@[simp] theorem drawn_pmpStale (s : State) : (drawn s).pmpStale = s.pmpStale := rfl
@[simp] theorem drawn_pmpStaleG (s : State) : (drawn s).pmpStaleG = s.pmpStaleG := rfl
@[simp] theorem drawn_inputs (s : State) : (drawn s).inputs = s.inputs := rfl
@[simp] theorem drawn_draws (s : State) : (drawn s).draws = s.draws + 1 := rfl

/-! ### setResv -/

@[simp] theorem setResv_cfg (s : State) (v : Option Reservation) : (setResv s v).cfg = s.cfg := rfl
@[simp] theorem setResv_regs (s : State) (v : Option Reservation) : (setResv s v).regs = s.regs := rfl
@[simp] theorem setResv_pc (s : State) (v : Option Reservation) : (setResv s v).pc = s.pc := rfl
@[simp] theorem setResv_priv (s : State) (v : Option Reservation) : (setResv s v).priv = s.priv := rfl
@[simp] theorem setResv_virt (s : State) (v : Option Reservation) : (setResv s v).virt = s.virt := rfl
@[simp] theorem setResv_m (s : State) (v : Option Reservation) : (setResv s v).m = s.m := rfl
@[simp] theorem setResv_pmp (s : State) (v : Option Reservation) : (setResv s v).pmp = s.pmp := rfl
@[simp] theorem setResv_sv (s : State) (v : Option Reservation) : (setResv s v).sv = s.sv := rfl
@[simp] theorem setResv_h (s : State) (v : Option Reservation) : (setResv s v).h = s.h := rfl
@[simp] theorem setResv_vs (s : State) (v : Option Reservation) : (setResv s v).vs = s.vs := rfl
@[simp] theorem setResv_plat (s : State) (v : Option Reservation) : (setResv s v).plat = s.plat := rfl
@[simp] theorem setResv_mem (s : State) (v : Option Reservation) : (setResv s v).mem = s.mem := rfl
@[simp] theorem setResv_resv (s : State) (v : Option Reservation) : (setResv s v).resv = v := rfl
@[simp] theorem setResv_stalled (s : State) (v : Option Reservation) : (setResv s v).stalled = s.stalled := rfl
@[simp] theorem setResv_tc (s : State) (v : Option Reservation) : (setResv s v).tc = s.tc := rfl
@[simp] theorem setResv_istale (s : State) (v : Option Reservation) : (setResv s v).istale = s.istale := rfl
@[simp] theorem setResv_pmpStale (s : State) (v : Option Reservation) : (setResv s v).pmpStale = s.pmpStale := rfl
@[simp] theorem setResv_pmpStaleG (s : State) (v : Option Reservation) : (setResv s v).pmpStaleG = s.pmpStaleG := rfl
@[simp] theorem setResv_inputs (s : State) (v : Option Reservation) : (setResv s v).inputs = s.inputs := rfl
@[simp] theorem setResv_draws (s : State) (v : Option Reservation) : (setResv s v).draws = s.draws := rfl

/-! ### setMode -/

@[simp] theorem setMode_cfg (s : State) (p : Priv) (v : Bool) : (setMode s p v).cfg = s.cfg := rfl
@[simp] theorem setMode_regs (s : State) (p : Priv) (v : Bool) : (setMode s p v).regs = s.regs := rfl
@[simp] theorem setMode_pc (s : State) (p : Priv) (v : Bool) : (setMode s p v).pc = s.pc := rfl
@[simp] theorem setMode_priv (s : State) (p : Priv) (v : Bool) : (setMode s p v).priv = p := rfl
@[simp] theorem setMode_virt (s : State) (p : Priv) (v : Bool) : (setMode s p v).virt = v := rfl
@[simp] theorem setMode_m (s : State) (p : Priv) (v : Bool) : (setMode s p v).m = s.m := rfl
@[simp] theorem setMode_pmp (s : State) (p : Priv) (v : Bool) : (setMode s p v).pmp = s.pmp := rfl
@[simp] theorem setMode_sv (s : State) (p : Priv) (v : Bool) : (setMode s p v).sv = s.sv := rfl
@[simp] theorem setMode_h (s : State) (p : Priv) (v : Bool) : (setMode s p v).h = s.h := rfl
@[simp] theorem setMode_vs (s : State) (p : Priv) (v : Bool) : (setMode s p v).vs = s.vs := rfl
@[simp] theorem setMode_plat (s : State) (p : Priv) (v : Bool) : (setMode s p v).plat = s.plat := rfl
@[simp] theorem setMode_mem (s : State) (p : Priv) (v : Bool) : (setMode s p v).mem = s.mem := rfl
@[simp] theorem setMode_resv (s : State) (p : Priv) (v : Bool) : (setMode s p v).resv = s.resv := rfl
@[simp] theorem setMode_stalled (s : State) (p : Priv) (v : Bool) : (setMode s p v).stalled = s.stalled := rfl
@[simp] theorem setMode_tc (s : State) (p : Priv) (v : Bool) : (setMode s p v).tc = s.tc := rfl
@[simp] theorem setMode_istale (s : State) (p : Priv) (v : Bool) : (setMode s p v).istale = s.istale := rfl
@[simp] theorem setMode_pmpStale (s : State) (p : Priv) (v : Bool) : (setMode s p v).pmpStale = s.pmpStale := rfl
@[simp] theorem setMode_pmpStaleG (s : State) (p : Priv) (v : Bool) : (setMode s p v).pmpStaleG = s.pmpStaleG := rfl
@[simp] theorem setMode_inputs (s : State) (p : Priv) (v : Bool) : (setMode s p v).inputs = s.inputs := rfl
@[simp] theorem setMode_draws (s : State) (p : Priv) (v : Bool) : (setMode s p v).draws = s.draws := rfl

/-! ### saveM -/

@[simp] theorem saveM_cfg (s : State) (cause tval : Word) : (saveM s cause tval).cfg = s.cfg := rfl
@[simp] theorem saveM_regs (s : State) (cause tval : Word) : (saveM s cause tval).regs = s.regs := rfl
@[simp] theorem saveM_pc (s : State) (cause tval : Word) : (saveM s cause tval).pc = s.pc := rfl
@[simp] theorem saveM_priv (s : State) (cause tval : Word) : (saveM s cause tval).priv = s.priv := rfl
@[simp] theorem saveM_virt (s : State) (cause tval : Word) : (saveM s cause tval).virt = s.virt := rfl
@[simp] theorem saveM_m (s : State) (cause tval : Word) : (saveM s cause tval).m = { s.m with mepc := s.pc, mcause := cause, mtval := tval } := rfl
@[simp] theorem saveM_pmp (s : State) (cause tval : Word) : (saveM s cause tval).pmp = s.pmp := rfl
@[simp] theorem saveM_sv (s : State) (cause tval : Word) : (saveM s cause tval).sv = s.sv := rfl
@[simp] theorem saveM_h (s : State) (cause tval : Word) : (saveM s cause tval).h = s.h := rfl
@[simp] theorem saveM_vs (s : State) (cause tval : Word) : (saveM s cause tval).vs = s.vs := rfl
@[simp] theorem saveM_plat (s : State) (cause tval : Word) : (saveM s cause tval).plat = s.plat := rfl
@[simp] theorem saveM_mem (s : State) (cause tval : Word) : (saveM s cause tval).mem = s.mem := rfl
@[simp] theorem saveM_resv (s : State) (cause tval : Word) : (saveM s cause tval).resv = s.resv := rfl
@[simp] theorem saveM_stalled (s : State) (cause tval : Word) : (saveM s cause tval).stalled = s.stalled := rfl
@[simp] theorem saveM_tc (s : State) (cause tval : Word) : (saveM s cause tval).tc = s.tc := rfl
@[simp] theorem saveM_istale (s : State) (cause tval : Word) : (saveM s cause tval).istale = s.istale := rfl
@[simp] theorem saveM_pmpStale (s : State) (cause tval : Word) : (saveM s cause tval).pmpStale = s.pmpStale := rfl
@[simp] theorem saveM_pmpStaleG (s : State) (cause tval : Word) : (saveM s cause tval).pmpStaleG = s.pmpStaleG := rfl
@[simp] theorem saveM_inputs (s : State) (cause tval : Word) : (saveM s cause tval).inputs = s.inputs := rfl
@[simp] theorem saveM_draws (s : State) (cause tval : Word) : (saveM s cause tval).draws = s.draws := rfl

/-! ### saveM2 -/

@[simp] theorem saveM2_cfg (s : State) (tval2 tinst : Word) : (saveM2 s tval2 tinst).cfg = s.cfg := rfl
@[simp] theorem saveM2_regs (s : State) (tval2 tinst : Word) : (saveM2 s tval2 tinst).regs = s.regs := rfl
@[simp] theorem saveM2_pc (s : State) (tval2 tinst : Word) : (saveM2 s tval2 tinst).pc = s.pc := rfl
@[simp] theorem saveM2_priv (s : State) (tval2 tinst : Word) : (saveM2 s tval2 tinst).priv = s.priv := rfl
@[simp] theorem saveM2_virt (s : State) (tval2 tinst : Word) : (saveM2 s tval2 tinst).virt = s.virt := rfl
@[simp] theorem saveM2_m (s : State) (tval2 tinst : Word) : (saveM2 s tval2 tinst).m = { s.m with mtval2 := tval2, mtinst := tinst } := rfl
@[simp] theorem saveM2_pmp (s : State) (tval2 tinst : Word) : (saveM2 s tval2 tinst).pmp = s.pmp := rfl
@[simp] theorem saveM2_sv (s : State) (tval2 tinst : Word) : (saveM2 s tval2 tinst).sv = s.sv := rfl
@[simp] theorem saveM2_h (s : State) (tval2 tinst : Word) : (saveM2 s tval2 tinst).h = s.h := rfl
@[simp] theorem saveM2_vs (s : State) (tval2 tinst : Word) : (saveM2 s tval2 tinst).vs = s.vs := rfl
@[simp] theorem saveM2_plat (s : State) (tval2 tinst : Word) : (saveM2 s tval2 tinst).plat = s.plat := rfl
@[simp] theorem saveM2_mem (s : State) (tval2 tinst : Word) : (saveM2 s tval2 tinst).mem = s.mem := rfl
@[simp] theorem saveM2_resv (s : State) (tval2 tinst : Word) : (saveM2 s tval2 tinst).resv = s.resv := rfl
@[simp] theorem saveM2_stalled (s : State) (tval2 tinst : Word) : (saveM2 s tval2 tinst).stalled = s.stalled := rfl
@[simp] theorem saveM2_tc (s : State) (tval2 tinst : Word) : (saveM2 s tval2 tinst).tc = s.tc := rfl
@[simp] theorem saveM2_istale (s : State) (tval2 tinst : Word) : (saveM2 s tval2 tinst).istale = s.istale := rfl
@[simp] theorem saveM2_pmpStale (s : State) (tval2 tinst : Word) : (saveM2 s tval2 tinst).pmpStale = s.pmpStale := rfl
@[simp] theorem saveM2_pmpStaleG (s : State) (tval2 tinst : Word) : (saveM2 s tval2 tinst).pmpStaleG = s.pmpStaleG := rfl
@[simp] theorem saveM2_inputs (s : State) (tval2 tinst : Word) : (saveM2 s tval2 tinst).inputs = s.inputs := rfl
@[simp] theorem saveM2_draws (s : State) (tval2 tinst : Word) : (saveM2 s tval2 tinst).draws = s.draws := rfl

/-! ### saveS -/

@[simp] theorem saveS_cfg (s : State) (cause tval : Word) : (saveS s cause tval).cfg = s.cfg := rfl
@[simp] theorem saveS_regs (s : State) (cause tval : Word) : (saveS s cause tval).regs = s.regs := rfl
@[simp] theorem saveS_pc (s : State) (cause tval : Word) : (saveS s cause tval).pc = s.pc := rfl
@[simp] theorem saveS_priv (s : State) (cause tval : Word) : (saveS s cause tval).priv = s.priv := rfl
@[simp] theorem saveS_virt (s : State) (cause tval : Word) : (saveS s cause tval).virt = s.virt := rfl
@[simp] theorem saveS_m (s : State) (cause tval : Word) : (saveS s cause tval).m = s.m := rfl
@[simp] theorem saveS_pmp (s : State) (cause tval : Word) : (saveS s cause tval).pmp = s.pmp := rfl
@[simp] theorem saveS_sv (s : State) (cause tval : Word) : (saveS s cause tval).sv = { s.sv with sepc := s.pc, scause := cause, stval := tval } := rfl
@[simp] theorem saveS_h (s : State) (cause tval : Word) : (saveS s cause tval).h = s.h := rfl
@[simp] theorem saveS_vs (s : State) (cause tval : Word) : (saveS s cause tval).vs = s.vs := rfl
@[simp] theorem saveS_plat (s : State) (cause tval : Word) : (saveS s cause tval).plat = s.plat := rfl
@[simp] theorem saveS_mem (s : State) (cause tval : Word) : (saveS s cause tval).mem = s.mem := rfl
@[simp] theorem saveS_resv (s : State) (cause tval : Word) : (saveS s cause tval).resv = s.resv := rfl
@[simp] theorem saveS_stalled (s : State) (cause tval : Word) : (saveS s cause tval).stalled = s.stalled := rfl
@[simp] theorem saveS_tc (s : State) (cause tval : Word) : (saveS s cause tval).tc = s.tc := rfl
@[simp] theorem saveS_istale (s : State) (cause tval : Word) : (saveS s cause tval).istale = s.istale := rfl
@[simp] theorem saveS_pmpStale (s : State) (cause tval : Word) : (saveS s cause tval).pmpStale = s.pmpStale := rfl
@[simp] theorem saveS_pmpStaleG (s : State) (cause tval : Word) : (saveS s cause tval).pmpStaleG = s.pmpStaleG := rfl
@[simp] theorem saveS_inputs (s : State) (cause tval : Word) : (saveS s cause tval).inputs = s.inputs := rfl
@[simp] theorem saveS_draws (s : State) (cause tval : Word) : (saveS s cause tval).draws = s.draws := rfl

/-! ### saveS2 -/

@[simp] theorem saveS2_cfg (s : State) (tval2 tinst : Word) : (saveS2 s tval2 tinst).cfg = s.cfg := rfl
@[simp] theorem saveS2_regs (s : State) (tval2 tinst : Word) : (saveS2 s tval2 tinst).regs = s.regs := rfl
@[simp] theorem saveS2_pc (s : State) (tval2 tinst : Word) : (saveS2 s tval2 tinst).pc = s.pc := rfl
@[simp] theorem saveS2_priv (s : State) (tval2 tinst : Word) : (saveS2 s tval2 tinst).priv = s.priv := rfl
@[simp] theorem saveS2_virt (s : State) (tval2 tinst : Word) : (saveS2 s tval2 tinst).virt = s.virt := rfl
@[simp] theorem saveS2_m (s : State) (tval2 tinst : Word) : (saveS2 s tval2 tinst).m = s.m := rfl
@[simp] theorem saveS2_pmp (s : State) (tval2 tinst : Word) : (saveS2 s tval2 tinst).pmp = s.pmp := rfl
@[simp] theorem saveS2_sv (s : State) (tval2 tinst : Word) : (saveS2 s tval2 tinst).sv = s.sv := rfl
@[simp] theorem saveS2_h (s : State) (tval2 tinst : Word) : (saveS2 s tval2 tinst).h = { s.h with htval := tval2, htinst := tinst } := rfl
@[simp] theorem saveS2_vs (s : State) (tval2 tinst : Word) : (saveS2 s tval2 tinst).vs = s.vs := rfl
@[simp] theorem saveS2_plat (s : State) (tval2 tinst : Word) : (saveS2 s tval2 tinst).plat = s.plat := rfl
@[simp] theorem saveS2_mem (s : State) (tval2 tinst : Word) : (saveS2 s tval2 tinst).mem = s.mem := rfl
@[simp] theorem saveS2_resv (s : State) (tval2 tinst : Word) : (saveS2 s tval2 tinst).resv = s.resv := rfl
@[simp] theorem saveS2_stalled (s : State) (tval2 tinst : Word) : (saveS2 s tval2 tinst).stalled = s.stalled := rfl
@[simp] theorem saveS2_tc (s : State) (tval2 tinst : Word) : (saveS2 s tval2 tinst).tc = s.tc := rfl
@[simp] theorem saveS2_istale (s : State) (tval2 tinst : Word) : (saveS2 s tval2 tinst).istale = s.istale := rfl
@[simp] theorem saveS2_pmpStale (s : State) (tval2 tinst : Word) : (saveS2 s tval2 tinst).pmpStale = s.pmpStale := rfl
@[simp] theorem saveS2_pmpStaleG (s : State) (tval2 tinst : Word) : (saveS2 s tval2 tinst).pmpStaleG = s.pmpStaleG := rfl
@[simp] theorem saveS2_inputs (s : State) (tval2 tinst : Word) : (saveS2 s tval2 tinst).inputs = s.inputs := rfl
@[simp] theorem saveS2_draws (s : State) (tval2 tinst : Word) : (saveS2 s tval2 tinst).draws = s.draws := rfl

/-! ### saveVS -/

@[simp] theorem saveVS_cfg (s : State) (cause tval : Word) : (saveVS s cause tval).cfg = s.cfg := rfl
@[simp] theorem saveVS_regs (s : State) (cause tval : Word) : (saveVS s cause tval).regs = s.regs := rfl
@[simp] theorem saveVS_pc (s : State) (cause tval : Word) : (saveVS s cause tval).pc = s.pc := rfl
@[simp] theorem saveVS_priv (s : State) (cause tval : Word) : (saveVS s cause tval).priv = s.priv := rfl
@[simp] theorem saveVS_virt (s : State) (cause tval : Word) : (saveVS s cause tval).virt = s.virt := rfl
@[simp] theorem saveVS_m (s : State) (cause tval : Word) : (saveVS s cause tval).m = s.m := rfl
@[simp] theorem saveVS_pmp (s : State) (cause tval : Word) : (saveVS s cause tval).pmp = s.pmp := rfl
@[simp] theorem saveVS_sv (s : State) (cause tval : Word) : (saveVS s cause tval).sv = s.sv := rfl
@[simp] theorem saveVS_h (s : State) (cause tval : Word) : (saveVS s cause tval).h = s.h := rfl
@[simp] theorem saveVS_vs (s : State) (cause tval : Word) : (saveVS s cause tval).vs = { s.vs with vsepc := s.pc, vscause := cause, vstval := tval } := rfl
@[simp] theorem saveVS_plat (s : State) (cause tval : Word) : (saveVS s cause tval).plat = s.plat := rfl
@[simp] theorem saveVS_mem (s : State) (cause tval : Word) : (saveVS s cause tval).mem = s.mem := rfl
@[simp] theorem saveVS_resv (s : State) (cause tval : Word) : (saveVS s cause tval).resv = s.resv := rfl
@[simp] theorem saveVS_stalled (s : State) (cause tval : Word) : (saveVS s cause tval).stalled = s.stalled := rfl
@[simp] theorem saveVS_tc (s : State) (cause tval : Word) : (saveVS s cause tval).tc = s.tc := rfl
@[simp] theorem saveVS_istale (s : State) (cause tval : Word) : (saveVS s cause tval).istale = s.istale := rfl
@[simp] theorem saveVS_pmpStale (s : State) (cause tval : Word) : (saveVS s cause tval).pmpStale = s.pmpStale := rfl
@[simp] theorem saveVS_pmpStaleG (s : State) (cause tval : Word) : (saveVS s cause tval).pmpStaleG = s.pmpStaleG := rfl
@[simp] theorem saveVS_inputs (s : State) (cause tval : Word) : (saveVS s cause tval).inputs = s.inputs := rfl
@[simp] theorem saveVS_draws (s : State) (cause tval : Word) : (saveVS s cause tval).draws = s.draws := rfl

/-! ### unstall -/

@[simp] theorem unstall_cfg (s : State) : (unstall s).cfg = s.cfg := rfl
@[simp] theorem unstall_regs (s : State) : (unstall s).regs = s.regs := rfl
@[simp] theorem unstall_pc (s : State) : (unstall s).pc = s.pc := rfl
@[simp] theorem unstall_priv (s : State) : (unstall s).priv = s.priv := rfl
@[simp] theorem unstall_virt (s : State) : (unstall s).virt = s.virt := rfl
@[simp] theorem unstall_m (s : State) : (unstall s).m = s.m := rfl
@[simp] theorem unstall_pmp (s : State) : (unstall s).pmp = s.pmp := rfl
@[simp] theorem unstall_sv (s : State) : (unstall s).sv = s.sv := rfl
@[simp] theorem unstall_h (s : State) : (unstall s).h = s.h := rfl
@[simp] theorem unstall_vs (s : State) : (unstall s).vs = s.vs := rfl
@[simp] theorem unstall_plat (s : State) : (unstall s).plat = s.plat := rfl
@[simp] theorem unstall_mem (s : State) : (unstall s).mem = s.mem := rfl
@[simp] theorem unstall_resv (s : State) : (unstall s).resv = s.resv := rfl
@[simp] theorem unstall_stalled (s : State) : (unstall s).stalled = false := rfl
@[simp] theorem unstall_tc (s : State) : (unstall s).tc = s.tc := rfl
@[simp] theorem unstall_istale (s : State) : (unstall s).istale = s.istale := rfl
@[simp] theorem unstall_pmpStale (s : State) : (unstall s).pmpStale = s.pmpStale := rfl
@[simp] theorem unstall_pmpStaleG (s : State) : (unstall s).pmpStaleG = s.pmpStaleG := rfl
@[simp] theorem unstall_inputs (s : State) : (unstall s).inputs = s.inputs := rfl
@[simp] theorem unstall_draws (s : State) : (unstall s).draws = s.draws := rfl

/-! ### returnReservation -/

@[simp] theorem returnReservation_cfg (s : State) : (returnReservation s).cfg = s.cfg := by unfold returnReservation; split <;> rfl
@[simp] theorem returnReservation_regs (s : State) : (returnReservation s).regs = s.regs := by unfold returnReservation; split <;> rfl
@[simp] theorem returnReservation_pc (s : State) : (returnReservation s).pc = s.pc := by unfold returnReservation; split <;> rfl
@[simp] theorem returnReservation_priv (s : State) : (returnReservation s).priv = s.priv := by unfold returnReservation; split <;> rfl
@[simp] theorem returnReservation_virt (s : State) : (returnReservation s).virt = s.virt := by unfold returnReservation; split <;> rfl
@[simp] theorem returnReservation_m (s : State) : (returnReservation s).m = s.m := by unfold returnReservation; split <;> rfl
@[simp] theorem returnReservation_pmp (s : State) : (returnReservation s).pmp = s.pmp := by unfold returnReservation; split <;> rfl
@[simp] theorem returnReservation_sv (s : State) : (returnReservation s).sv = s.sv := by unfold returnReservation; split <;> rfl
@[simp] theorem returnReservation_h (s : State) : (returnReservation s).h = s.h := by unfold returnReservation; split <;> rfl
@[simp] theorem returnReservation_vs (s : State) : (returnReservation s).vs = s.vs := by unfold returnReservation; split <;> rfl
@[simp] theorem returnReservation_plat (s : State) : (returnReservation s).plat = s.plat := by unfold returnReservation; split <;> rfl
@[simp] theorem returnReservation_mem (s : State) : (returnReservation s).mem = s.mem := by unfold returnReservation; split <;> rfl
@[simp] theorem returnReservation_stalled (s : State) : (returnReservation s).stalled = s.stalled := by unfold returnReservation; split <;> rfl
@[simp] theorem returnReservation_tc (s : State) : (returnReservation s).tc = s.tc := by unfold returnReservation; split <;> rfl
@[simp] theorem returnReservation_istale (s : State) : (returnReservation s).istale = s.istale := by unfold returnReservation; split <;> rfl
@[simp] theorem returnReservation_pmpStale (s : State) : (returnReservation s).pmpStale = s.pmpStale := by unfold returnReservation; split <;> rfl
@[simp] theorem returnReservation_pmpStaleG (s : State) : (returnReservation s).pmpStaleG = s.pmpStaleG := by unfold returnReservation; split <;> rfl
@[simp] theorem returnReservation_inputs (s : State) : (returnReservation s).inputs = s.inputs := by unfold returnReservation; split <;> rfl
@[simp] theorem returnReservation_draws (s : State) : (returnReservation s).draws = s.draws := by unfold returnReservation; split <;> rfl

/-! ### tick -/

@[simp] theorem tick_cfg (start s : State) : (tick start s).cfg = s.cfg := rfl
@[simp] theorem tick_regs (start s : State) : (tick start s).regs = s.regs := rfl
@[simp] theorem tick_pc (start s : State) : (tick start s).pc = s.pc := rfl
@[simp] theorem tick_priv (start s : State) : (tick start s).priv = s.priv := rfl
@[simp] theorem tick_virt (start s : State) : (tick start s).virt = s.virt := rfl
@[simp] theorem tick_pmp (start s : State) : (tick start s).pmp = s.pmp := rfl
@[simp] theorem tick_sv (start s : State) : (tick start s).sv = s.sv := rfl
@[simp] theorem tick_h (start s : State) : (tick start s).h = s.h := rfl
@[simp] theorem tick_vs (start s : State) : (tick start s).vs = s.vs := rfl
@[simp] theorem tick_mem (start s : State) : (tick start s).mem = s.mem := rfl
@[simp] theorem tick_resv (start s : State) : (tick start s).resv = s.resv := rfl
@[simp] theorem tick_stalled (start s : State) : (tick start s).stalled = s.stalled := rfl
@[simp] theorem tick_tc (start s : State) : (tick start s).tc = s.tc := rfl
@[simp] theorem tick_istale (start s : State) : (tick start s).istale = s.istale := rfl
@[simp] theorem tick_pmpStale (start s : State) : (tick start s).pmpStale = s.pmpStale := rfl
@[simp] theorem tick_pmpStaleG (start s : State) : (tick start s).pmpStaleG = s.pmpStaleG := rfl
@[simp] theorem tick_inputs (start s : State) : (tick start s).inputs = s.inputs := rfl
@[simp] theorem tick_draws (start s : State) : (tick start s).draws = s.draws + 1 := rfl
@[simp] theorem tick_minstret (start s : State) : (tick start s).m.minstret = s.m.minstret := rfl

/-- What a step's advance does: a counter inhibited before and after it stands still, any other moves by the amount given. -/
theorem advance_cases (start s : State) (n : Nat) (v d : BitVec 64) :
    (inhibited start n = true ∧ inhibited s n = true ∧ advance start s n v d = v) ∨
    ((inhibited start n = false ∨ inhibited s n = false) ∧ advance start s n v d = v + d) := by
  cases h : inhibited start n <;> cases k : inhibited s n <;> simp [advance, h, k]

end Sys2Proof.Machine
end

