-- ==== Sys2Proof/Laws/Memory.lean ====
section
/-! SUPPORT. Memory: every operation keeps the canonical form, and a read after a write. -/

namespace Sys2Proof.Machine

/-- The canonical form of a list with one more entry in front. -/
theorem memory_wf_cons (a : Nat) (v : Byte) (t : List Host.Cell) :
    Memory.wf ((a, v) :: t) = true ↔ v ≠ unlistedByte ∧ (∀ e ∈ t, a < e.1) ∧ Memory.wf t = true := by
  induction t generalizing a v with
  | nil => simp [Memory.wf]
  | cons e t ih =>
    obtain ⟨b, w⟩ := e
    have h1 := ih b w
    simp only [Memory.wf, Bool.and_eq_true, decide_eq_true_eq, bne_iff_ne, List.forall_mem_cons]
    constructor
    · rintro ⟨⟨hv, hab⟩, hw⟩
      exact ⟨hv, ⟨hab, fun e he => lt_trans hab ((h1.1 hw).2.1 e he)⟩, hw⟩
    · rintro ⟨hv, ⟨hab, -⟩, hw⟩
      exact ⟨⟨hv, hab⟩, hw⟩

/-- A write lists no address but its own and those listed before. -/
theorem memory_write_addrs {mem : List Host.Cell} {a : Nat} {v : Byte} {e : Host.Cell}
    (h : e ∈ Memory.write mem a v) : e.1 = a ∨ e ∈ mem := by
  induction mem with
  | nil =>
    simp only [Memory.write] at h
    split at h <;> simp_all
  | cons f t ih =>
    obtain ⟨b, w⟩ := f
    simp only [Memory.write] at h
    split at h
    · split at h
      · exact .inr h
      · rcases List.mem_cons.1 h with rfl | h
        exacts [.inl rfl, .inr h]
    · split at h
      · split at h
        · exact .inr (List.mem_cons_of_mem _ h)
        · rcases List.mem_cons.1 h with rfl | h
          exacts [.inl rfl, .inr (List.mem_cons_of_mem _ h)]
      · rcases List.mem_cons.1 h with rfl | h
        · exact .inr (by simp)
        · exact (ih h).imp_right (List.mem_cons_of_mem _)

/-- A write keeps the canonical form. -/
theorem memory_write_wf {mem : List Host.Cell} (h : Memory.wf mem = true) (a : Nat) (v : Byte) :
    Memory.wf (Memory.write mem a v) = true := by
  induction mem with
  | nil => simp only [Memory.write]; split <;> simp_all [Memory.wf]
  | cons f t ih =>
    obtain ⟨b, w⟩ := f
    obtain ⟨hw, hb, ht⟩ := (memory_wf_cons b w t).1 h
    simp only [Memory.write]
    split
    · rename_i hab
      split
      · exact h
      · rename_i hv
        refine (memory_wf_cons _ _ _).2 ⟨hv, ?_, h⟩
        intro e he
        rcases List.mem_cons.1 he with rfl | he
        exacts [hab, lt_trans hab (hb e he)]
    · split
      · rename_i hab
        split
        · exact ht
        · rename_i hv
          exact (memory_wf_cons _ _ _).2 ⟨hv, fun e he => hab ▸ hb e he, ht⟩
      · refine (memory_wf_cons _ _ _).2 ⟨hw, fun e he => ?_, ih ht⟩
        rcases memory_write_addrs he with he | he
        · omega
        · exact hb e he

/-- An address below every listed one reads as unlisted. -/
theorem memory_read_unlisted {mem : List Host.Cell} {a : Nat} (h : ∀ e ∈ mem, a < e.1) :
    Memory.read mem a = unlistedByte := by
  induction mem with
  | nil => rfl
  | cons f t ih =>
    obtain ⟨b, w⟩ := f
    have h1 := (List.forall_mem_cons.1 h).1
    have h2 := (List.forall_mem_cons.1 h).2
    simp only [Memory.read, if_neg (Nat.ne_of_lt h1)]
    exact ih h2

/-- A read after a write: the byte written at its address, every other byte as before. -/
theorem memory_read_write {mem : List Host.Cell} (h : Memory.wf mem = true) (a b : Nat) (v : Byte) :
    Memory.read (Memory.write mem a v) b = if b = a then v else Memory.read mem b := by
  induction mem with
  | nil =>
    simp only [Memory.write]
    by_cases hv : v = unlistedByte <;> simp [hv, Memory.read]
  | cons f t ih =>
    obtain ⟨c, w⟩ := f
    obtain ⟨-, hc, ht⟩ := (memory_wf_cons c w t).1 h
    have ih := ih ht
    simp only [Memory.write]
    split
    · rename_i hac
      split
      · rename_i hv
        by_cases hb : b = a
        · have hbc : b ≠ c := by omega
          rw [if_pos hb, hv, Memory.read, if_neg hbc]
          exact memory_read_unlisted fun e he => lt_trans (by omega) (hc e he)
        · rw [if_neg hb]
      · simp only [Memory.read]
    · split
      · rename_i hac
        subst hac
        split
        · rename_i hv
          by_cases hb : b = a
          · rw [if_pos hb, hv, hb]
            exact memory_read_unlisted hc
          · simp [Memory.read, hb]
        · by_cases hb : b = a <;> simp [Memory.read, hb]
      · rename_i hac
        by_cases hbc : b = c
        · have hb : b ≠ a := by omega
          simp only [Memory.read, if_pos hbc, if_neg hb]
        · simp [Memory.read, hbc, ih]

/-- A write of several bytes keeps the canonical form. -/
theorem memory_writeBytes_wf {mem : List Host.Cell} (h : Memory.wf mem = true) (a : Nat) (bs : List Byte) :
    Memory.wf (Memory.writeBytes mem a bs) = true := by
  induction bs generalizing mem a with
  | nil => exact h
  | cons v vs ih => exact ih (memory_write_wf h a v) (a + 1)

/-- A read after a write of several bytes. -/
theorem memory_read_writeBytes {mem : List Host.Cell} (h : Memory.wf mem = true) (a b : Nat) (bs : List Byte) :
    Memory.read (Memory.writeBytes mem a bs) b =
      if a ≤ b ∧ b < a + bs.length then bs.getD (b - a) 0 else Memory.read mem b := by
  induction bs generalizing mem a with
  | nil => simp [Memory.writeBytes, show ¬(a ≤ b ∧ b < a) by omega]
  | cons v vs ih =>
    rw [Memory.writeBytes, ih (memory_write_wf h a v), memory_read_write h]
    by_cases h1 : b = a
    · subst h1; simp
    · by_cases h2 : a + 1 ≤ b ∧ b < a + 1 + vs.length
      · rw [if_pos h2, if_pos (by simp; omega), show b - a = (b - (a + 1)) + 1 by omega, List.getD_cons_succ]
      · rw [if_neg h2, if_neg h1, if_neg (by simp; omega)]

/-- A store to main memory keeps the canonical form. -/
theorem storeBytes_wf {s : State} (h : Memory.wf s.mem = true) (a : Nat) (bs : List Byte) :
    Memory.wf (storeBytes s a bs).mem = true :=
  memory_writeBytes_wf h a bs

/-- A write of a memory-mapped register keeps the canonical form. -/
theorem deviceWrite_wf {s : State} (h : Memory.wf s.mem = true) (d : DevReg) (off : Nat) (bs : List Byte) :
    Memory.wf (deviceWrite s d off bs).mem = true := by
  unfold deviceWrite setDevice
  split
  · cases d <;> exact h
  · exact memory_writeBytes_wf h _ _

/-- What a store at a physical address does: to main memory, to a register, or nothing. -/
theorem physStore_cases (s : State) (a : Nat) (bs : List Byte) :
    physStore s a bs = storeBytes s a bs ∨ (∃ d off, physStore s a bs = deviceWrite s d off bs) ∨ physStore s a bs = s := by
  unfold physStore
  split
  · split
    exacts [.inr (.inl ⟨_, _, rfl⟩), .inr (.inr rfl)]
  · exact .inl rfl

/-- A store at a physical address keeps the canonical form. -/
theorem physStore_wf {s : State} (h : Memory.wf s.mem = true) (a : Nat) (bs : List Byte) :
    Memory.wf (physStore s a bs).mem = true := by
  obtain e | ⟨d, off, e⟩ | e := physStore_cases s a bs <;> rw [e]
  exacts [storeBytes_wf h a bs, deviceWrite_wf h d off bs, h]

/-- The stores of other agents keep the canonical form. -/
theorem storeCells_wf {s : State} (h : Memory.wf s.mem = true) (cells : List Host.Cell) :
    Memory.wf (storeCells s cells).mem = true := by
  induction cells generalizing s with
  | nil => exact h
  | cons e t ih => exact ih (physStore_wf h e.1 [e.2])

/-- Placing an instruction keeps the canonical form. -/
theorem placeWord_wf {s : State} (h : Memory.wf s.mem = true) (bs : List Byte) :
    Memory.wf (placeWord s bs).mem = true :=
  memory_writeBytes_wf h _ bs

/-- Memory after reset has the canonical form. -/
theorem reset_memory_wf (c : Config) : Memory.wf (State.resetIn c).mem = true := rfl

end Sys2Proof.Machine
end

