-- ==== Sys2Proof/Laws/Access.lean ====
section
/-! SUPPORT. What a memory access can do, once: translation, checks, reads and writes change nothing but memory, the
platform's registers, the translation cache, the stale words and the draw counter. -/

namespace Sys2Proof.Machine

/-! ### Sequencing -/

@[simp] theorem bind_ok {α β : Type} (a : α) (s : State) (f : α → State → Res β) : (Res.ok a s).bind f = f a s := rfl

@[simp] theorem bind_trap {α β : Type} (e : Exc) (s : State) (f : α → State → Res β) :
    (Res.trap e s : Res α).bind f = .trap e s := rfl

theorem bind_eq_ok {α β : Type} {r : Res α} {f : α → State → Res β} {b : β} {t : State} :
    r.bind f = .ok b t ↔ ∃ a s, r = .ok a s ∧ f a s = .ok b t := by
  cases r <;> simp

theorem bind_eq_trap {α β : Type} {r : Res α} {f : α → State → Res β} {e : Exc} {t : State} :
    r.bind f = .trap e t ↔ r = .trap e t ∨ ∃ a s, r = .ok a s ∧ f a s = .trap e t := by
  cases r <;> simp

/-! ### What an access may change -/

/-- `t` is `s` but for what memory accesses change, and memory's canonical form is kept. -/
structure Touched (s t : State) : Prop where
  cfg : t.cfg = s.cfg
  regs : t.regs = s.regs
  pc : t.pc = s.pc
  priv : t.priv = s.priv
  virt : t.virt = s.virt
  m : t.m = s.m
  pmp : t.pmp = s.pmp
  sv : t.sv = s.sv
  h : t.h = s.h
  vs : t.vs = s.vs
  resv : t.resv = s.resv
  stalled : t.stalled = s.stalled
  pmpStale : t.pmpStale = s.pmpStale
  pmpStaleG : t.pmpStaleG = s.pmpStaleG
  inputs : t.inputs = s.inputs
  wf : Memory.wf s.mem = true → Memory.wf t.mem = true

theorem Touched.refl {s : State} : Touched s s := by constructor <;> first | rfl | exact id

theorem Touched.trans {s t u : State} (h : Touched s t) (k : Touched t u) : Touched s u where
  cfg := k.cfg.trans h.cfg
  regs := k.regs.trans h.regs
  pc := k.pc.trans h.pc
  priv := k.priv.trans h.priv
  virt := k.virt.trans h.virt
  m := k.m.trans h.m
  pmp := k.pmp.trans h.pmp
  sv := k.sv.trans h.sv
  h := k.h.trans h.h
  vs := k.vs.trans h.vs
  resv := k.resv.trans h.resv
  stalled := k.stalled.trans h.stalled
  pmpStale := k.pmpStale.trans h.pmpStale
  pmpStaleG := k.pmpStaleG.trans h.pmpStaleG
  inputs := k.inputs.trans h.inputs
  wf w := k.wf (h.wf w)

theorem touched_drawn (s : State) : Touched s (drawn s) := by constructor <;> first | rfl | exact id

theorem touched_tc (s : State) (l : List TcEntry) : Touched s { s with tc := l } := by constructor <;> first | rfl | exact id

theorem touched_storeBytes (s : State) (a : Nat) (bs : List Byte) : Touched s (storeBytes s a bs) := by
  constructor <;> first | rfl | exact fun h => storeBytes_wf h a bs

theorem touched_deviceWrite (s : State) (d : DevReg) (off : Nat) (bs : List Byte) : Touched s (deviceWrite s d off bs) := by
  unfold deviceWrite setDevice
  split
  · cases d <;> constructor <;> first | rfl | exact id
  · constructor <;> first | rfl | exact fun h => memory_writeBytes_wf h _ _

theorem touched_physStore (s : State) (a : Nat) (bs : List Byte) : Touched s (physStore s a bs) := by
  obtain e | ⟨d, off, e⟩ | e := physStore_cases s a bs <;> rw [e]
  exacts [touched_storeBytes s a bs, touched_deviceWrite s d off bs, .refl]

/-- Everything the stores of other agents do to the state, the reservation apart. -/
theorem touched_storeCells (s : State) (cells : List Host.Cell) : Touched s (storeCells s cells) := by
  induction cells generalizing s with
  | nil => exact .refl
  | cons e t ih => exact (touched_physStore s e.1 [e.2]).trans (ih _)

/-- What a store of another agent does to the reservation. -/
theorem dropReservation_resv (s : State) (ends : Reservation → Nat → Bool) (addrs : List Nat) :
    dropReservation s ends addrs = { s with resv := s.resv.filter fun v => !addrs.any (ends v) } := by
  obtain ⟨_, _, _, _, _, _, _, _, _, _, _, _, resv, _, _, _, _, _, _, _⟩ := s
  cases resv with
  | none => rfl
  | some v => cases h : addrs.any (ends v) <;> simp [dropReservation, setResv, Option.filter, h]

/-- Every state an operation leaves is `Touched`. -/
def Res.Touches {α : Type} (s : State) (r : Res α) : Prop :=
  (∀ a t, r = .ok a t → Touched s t) ∧ ∀ e t, r = .trap e t → Touched s t

theorem touches_ok {α : Type} {s t : State} (a : α) (h : Touched s t) : Res.Touches s (.ok a t : Res α) :=
  ⟨fun _ _ k => by cases k; exact h, fun _ _ k => by cases k⟩

theorem touches_trap {α : Type} {s t : State} (e : Exc) (h : Touched s t) : Res.Touches s (.trap e t : Res α) :=
  ⟨fun _ _ k => (by cases k), fun _ _ k => (by cases k; exact h)⟩

theorem touches_after {α : Type} {s t : State} {r : Res α} (h : Touched s t) (k : Res.Touches t r) : Res.Touches s r :=
  ⟨fun a u e => h.trans (k.1 a u e), fun x u e => h.trans (k.2 x u e)⟩

theorem touches_bind {α β : Type} {s : State} {r : Res α} {f : α → State → Res β} (h : Res.Touches s r)
    (k : ∀ a t, r = .ok a t → Res.Touches t (f a t)) : Res.Touches s (r.bind f) := by
  cases r with
  | ok a t => exact touches_after (h.1 a t rfl) (k a t rfl)
  | trap e t => exact touches_trap e (h.2 e t rfl)

/-- The same, every state compared with the first. -/
theorem touches_bind_from {α β : Type} {s0 s : State} {r : Res α} {f : α → State → Res β} (h : Touched s0 s)
    (hr : Res.Touches s r) (k : ∀ a t, Touched s0 t → Res.Touches s0 (f a t)) : Res.Touches s0 (r.bind f) := by
  cases r with
  | ok a t => exact k a t (h.trans (hr.1 a t rfl))
  | trap e t => exact touches_trap e (h.trans (hr.2 e t rfl))

/-! ### Checks, reads and writes at a physical address -/

theorem pmpPass_state (s : State) (guest : Bool) (a n : Nat) (t : Acc) (p : Priv) :
    (pmpPass s guest a n t p).2 = s ∨ (pmpPass s guest a n t p).2 = drawn s := by
  unfold pmpPass
  dsimp only
  generalize List.map _ _ = l
  split
  exacts [.inl rfl, .inr rfl]

/-- With no unsynchronised settings the check is the current one. -/
theorem pmpPass_synchronised (s : State) (guest : Bool) (a n : Nat) (t : Acc) (p : Priv)
    (h : (if guest then s.pmpStaleG else s.pmpStale) = []) :
    pmpPass s guest a n t p = (pmpCheck s.cfg s.pmp a n t p, s) := by
  simp [pmpPass, h]

theorem pmpPass_touched (s : State) (guest : Bool) (a n : Nat) (t : Acc) (p : Priv) :
    Touched s (pmpPass s guest a n t p).2 := by
  rcases pmpPass_state s guest a n t p with h | h <;> rw [h]
  exacts [.refl, touched_drawn s]

theorem checkPhys_touches (s : State) (r : Req) (u : PmaUse) (t : Acc) (p : Priv) (m : Mapping) (len n : Nat) :
    Res.Touches s (checkPhys s r u t p m len n) := by
  have h := pmpPass_touched s r.virt m.pa len t p
  unfold checkPhys
  split
  · split <;> rename_i hp <;> rw [hp] at h
    exacts [touches_ok () h, touches_trap _ h]
  · exact touches_trap _ .refl

/-- A check that passes: the attributes and the PMP allow the access. -/
theorem checkPhys_ok {s t : State} {r : Req} {u : PmaUse} {ty : Acc} {p : Priv} {m : Mapping}
    {len n : Nat} (h : checkPhys s r u ty p m len n = .ok () t) :
    pmaAllows s.cfg m.pbmt m.pa len n u = true ∧ pmpPass s r.virt m.pa len ty p = (true, t) := by
  unfold checkPhys at h
  split at h
  · split at h
    · rename_i hp; cases h; exact ⟨‹_›, hp⟩
    · cases h
  · cases h

theorem physRead_touches (s : State) (a n : Nat) : Res.Touches s (physRead s a n) := by
  unfold physRead
  split
  · split
    exacts [touches_ok _ .refl, touches_ok _ (touched_drawn _)]
  · exact touches_ok _ .refl

/-- A read of main memory. -/
theorem physRead_main {s : State} {a n : Nat} (h : isIo s.cfg a n = false) :
    physRead s a n = .ok (Memory.readBytes s.mem a n) s := by
  simp [physRead, h]

theorem physWrite_touches (s : State) (a : Nat) (bs : List Byte) : Res.Touches s (physWrite s a bs) :=
  touches_ok _ (touched_physStore s a bs)

/-- A write of main memory. -/
theorem physWrite_main {s : State} {a : Nat} {bs : List Byte} (h : isIo s.cfg a bs.length = false) :
    physWrite s a bs = .ok () (storeBytes s a bs) := by
  simp [physWrite, physStore, h]

/-! ### Translation -/

theorem tcInsert_touched (s : State) (e : TcEntry) : Touched s (tcInsert s e) := touched_tc _ _

theorem tcUse_touched (s : State) (w : Walk) (q i : Nat) (pte : Word) : Touched s (tcUse s w q i pte) := touched_tc _ _

theorem tcAdd_touched (s : State) (w : Walk) (q i : Nat) (g : Bool) (pte : Word) : Touched s (tcAdd s w q i g pte) := by
  have fold (f : Nat → TcEntry) (l : List Nat) (t : State) : Touched t (l.foldl (fun t j => tcInsert t (f j)) t) := by
    induction l generalizing t with
    | nil => exact .refl
    | cons j l ih => exact (tcInsert_touched t (f j)).trans (ih _)
  unfold tcAdd
  dsimp only
  split
  · exact (tcInsert_touched s _).trans (fold _ _ _)
  · exact tcInsert_touched s _

theorem pteFetch_touches (s : State) (w : Walk) (q i : Nat) (g : Bool) (mem : State → Nat → Res Word)
    (hm : ∀ t a, Res.Touches t (mem t a)) : Res.Touches s (pteFetch s w q i g mem) := by
  have read (t : State) : Res.Touches t ((mem t q).bind fun v s1 => .ok v (tcAdd s1 w q i g v)) :=
    touches_bind (hm t q) fun v s1 _ => touches_ok v (tcAdd_touched s1 w q i g v)
  have chosen (k : Nat) (v : Word) : Res.Touches s
      (if k = 0 then (mem (drawn s) q).bind fun v s1 => .ok v (tcAdd s1 w q i g v)
        else .ok v (tcUse (drawn s) w q i v)) := by
    split
    · exact touches_after (touched_drawn s) (read _)
    · exact touches_ok v ((touched_drawn s).trans (tcUse_touched ..))
  unfold pteFetch
  dsimp only
  generalize tcValues s w q i = cached
  cases cached with
  | nil => exact read s
  | cons v0 vs =>
    dsimp only
    split
    · split
      exacts [read s, chosen _ _]
    · exact chosen _ _

theorem pteRead_touches (r : Req) (w : Walk) (s : State) (m : Mapping) : Res.Touches s (pteRead r w s m) := by
  unfold pteRead
  dsimp only
  split
  · exact touches_trap _ .refl
  · exact touches_bind (checkPhys_touches ..) fun _ s1 _ =>
      touches_bind (physRead_touches ..) fun _ s2 _ => touches_ok _ .refl

theorem pteStorable_touches (r : Req) (w : Walk) (s : State) (m : Mapping) : Res.Touches s (pteStorable r w s m) := by
  unfold pteStorable
  dsimp only
  split
  · exact touches_trap _ .refl
  · exact checkPhys_touches ..

theorem pteSet_touches (w : Walk) (s : State) (m : Mapping) (pte : Word) : Res.Touches s (pteSet w s m pte) :=
  physWrite_touches ..

theorem walkOn_touches {s0 s : State} {r : Req} {w : Walk} {i : Nat} {g : Bool} {pte : Word}
    {down : State → Nat → Bool → Res Mapping} {mark : Res Mapping} (h : Touched s0 s)
    (hd : ∀ t a g, Res.Touches t (down t a g)) (hm : Res.Touches s0 mark) :
    Res.Touches s0 (walkOn s r w i g pte down mark) := by
  unfold walkOn
  split
  exacts [touches_trap _ h, touches_after h (hd _ _ _), touches_ok _ h, hm]

/-- What reads have left, without the stores: `Touched` if all of it together is. -/
theorem readsOf_touched {s t : State} (h : Touched s t) : Touched s (readsOf s t) := { h with wf := id }

theorem pteUpdate_touches {before s : State} {r : Req} {w : Walk} {q i : Nat} {g : Bool} {pte : Word} {m : Mapping}
    {down : State → Nat → Bool → Res Mapping} (h : Touched before s) (hd : ∀ t a g, Res.Touches t (down t a g)) :
    Res.Touches before (pteUpdate before s r w q i g pte m down) := by
  refine touches_bind_from h (pteRead_touches ..) fun now s1 h1 => ?_
  have set {s2 : State} (h2 : Touched before s2) (v : Word) (x : Mapping) :
      Res.Touches before ((pteSet w s2 m v).bind fun _ s3 => .ok x s3) :=
    touches_bind_from h2 (pteSet_touches ..) fun _ _ h3 => touches_ok x h3
  split
  · exact set h1 _ _
  · have h2 := h1.trans (tcAdd_touched s1 w q i g now)
    exact walkOn_touches (readsOf_touched h2) hd (set h2 _ _)

theorem walkFrom_touches (r : Req) (w : Walk) (loc : State → Nat → Bool → Res Mapping)
    (hl : ∀ t a b, Res.Touches t (loc t a b)) (i : Nat) (s : State) (a : Nat) (g : Bool) :
    Res.Touches s (walkFrom r w loc i s a g) := by
  have level (i : Nat) (down : State → Nat → Bool → Res Mapping) (hd : ∀ t a g, Res.Touches t (down t a g)) (s : State)
      (a : Nat) (g : Bool) : Res.Touches s (walkLevel r w loc i down s a g) := by
    refine touches_bind (pteFetch_touches _ _ _ _ _ _ fun t p => touches_bind (hl t p false) fun m t1 _ =>
      pteRead_touches ..) fun pte s1 _ => walkOn_touches .refl hd ?_
    exact touches_bind_from .refl (hl s1 _ true) fun m s2 h2 =>
      touches_bind_from h2 (pteStorable_touches ..) fun _ s3 h3 => pteUpdate_touches h3 hd
  induction i generalizing s a g with
  | zero => exact level 0 _ (fun _ _ _ => touches_trap _ .refl) s a g
  | succ i ih => exact level (i + 1) _ ih s a g

theorem gStage_touches (s : State) (r : Req) (gpa : Nat) (implicit : Option Bool) :
    Res.Touches s (gStage s r gpa implicit) := by
  have main (acc : Acc) : Res.Touches s
      (if (gWalk s gpa acc implicit).levels = 0 then .ok (.plain gpa) s
        else if 2 ^ (14 + (gWalk s gpa acc implicit).vpnBits * (gWalk s gpa acc implicit).levels) ≤ gpa then
          .trap ((gWalk s gpa acc implicit).fault r) s
        else walk s r (gWalk s gpa acc implicit) physLoc) := by
    split
    · exact touches_ok _ .refl
    split
    · exact touches_trap _ .refl
    · exact walkFrom_touches _ _ _ (fun _ _ _ => touches_ok _ .refl) ..
  rcases implicit with _ | _ | _ <;> exact main _

theorem translate_touches (s : State) (r : Req) : Res.Touches s (translate s r) := by
  unfold translate
  split
  · exact touches_ok _ .refl
  split
  · unfold translateV
    refine touches_bind ?_ fun m s1 _ => touches_bind (gStage_touches ..) fun _ _ _ => touches_ok _ .refl
    unfold translateVS
    dsimp only
    split
    · exact touches_ok _ .refl
    split
    · exact touches_trap _ .refl
    · exact walkFrom_touches _ _ _ (fun _ _ _ => gStage_touches ..) ..
  · unfold translateS
    dsimp only
    split
    · exact touches_ok _ .refl
    split
    · exact touches_trap _ .refl
    · exact walkFrom_touches _ _ _ (fun _ _ _ => touches_ok _ .refl) ..

/-! ### Whole accesses -/

theorem resolve_touches (s : State) (via : Via) (u : PmaUse) (ea : Word) (n : Nat) (l : List (Word × Nat)) :
    Res.Touches s (resolve s via u ea n l) := by
  induction l generalizing s with
  | nil => exact touches_ok _ .refl
  | cons p l ih =>
    exact touches_bind (translate_touches ..) fun pa s1 _ =>
      touches_bind (checkPhys_touches ..) fun _ s2 _ =>
        touches_bind (ih s2) fun _ s3 _ => touches_ok _ .refl

theorem access_touches (s : State) (via : Via) (u : PmaUse) (ea : Word) (n : Nat) :
    Res.Touches s (access s via u ea n) := by
  unfold access
  split
  · exact resolve_touches ..
  · dsimp only
    split
    · exact touches_trap _ .refl
    · exact touches_bind (resolve_touches ..) fun _ _ _ => touches_trap _ .refl

theorem readParts_touches (s : State) (l : List (Nat × Nat)) : Res.Touches s (readParts s l) := by
  induction l generalizing s with
  | nil => exact touches_ok _ .refl
  | cons p l ih =>
    exact touches_bind (physRead_touches ..) fun _ s1 _ => touches_bind (ih s1) fun _ _ _ => touches_ok _ .refl

theorem writeParts_touches (s : State) (l : List (Nat × Nat)) (bs : List Byte) :
    Res.Touches s (writeParts s l bs) := by
  induction l generalizing s bs with
  | nil => exact touches_ok _ .refl
  | cons p l ih => exact touches_bind (physWrite_touches ..) fun _ s1 _ => ih s1 _

/-- Everything a load's access can do to the state. -/
theorem memRead_touches (s : State) (via : Via) (u : PmaUse) (ea : Word) (n : Nat) :
    Res.Touches s (memRead s via u ea n) :=
  touches_bind (access_touches ..) fun _ _ _ => touches_bind (readParts_touches ..) fun _ _ _ => touches_ok _ .refl

/-- Everything a store's access can do to the state. -/
theorem memWrite_touches (s : State) (via : Via) (ea : Word) (n : Nat) (v : Word) :
    Res.Touches s (memWrite s via ea n v) :=
  touches_bind (access_touches ..) fun _ _ _ => writeParts_touches ..

/-- Everything an AMO's access can do to the state. -/
theorem amo_touches (s : State) (op : AmoOp) (ea : Word) (n : Nat) (src : Word) : Res.Touches s (amo s op ea n src) :=
  touches_bind (access_touches ..) fun _ _ _ =>
    touches_bind (readParts_touches ..) fun _ _ _ =>
      touches_bind (writeParts_touches ..) fun _ _ _ => touches_ok _ .refl

/-- LR that completes: what an access does, and the reservation of the block read. -/
theorem loadReserved_ok {s t : State} {ea v : Word} {n : Nat} (h : loadReserved s ea n = .ok v t) :
    ∃ u pas, access s .plain .lr ea n = .ok pas u ∧ Touched s (setResv t s.resv) ∧
      t.resv = some { block := firstPa pas / 2 ^ s.cfg.rsetLog2, addr := firstPa pas, ea := ea, size := n } := by
  obtain ⟨pas, u, ha, h⟩ := bind_eq_ok.1 h
  obtain ⟨bs, u', hr, h⟩ := bind_eq_ok.1 h
  have k := ((access_touches ..).1 _ _ ha).trans ((readParts_touches ..).1 _ _ hr)
  cases h
  exact ⟨u, pas, ha, { k with resv := rfl }, rfl⟩

/-- SC that completes: what an access does, and no reservation is left. -/
theorem storeConditional_ok {s t : State} {ea v c : Word} {n : Nat} (h : storeConditional s ea n v = .ok c t) :
    Touched s (setResv t s.resv) ∧ t.resv = none ∧ (c = 0 ∨ c = 1) := by
  have drop {u : State} (k : Touched s u) : Touched s (setResv (setResv u none) s.resv) :=
    { k with resv := rfl }
  obtain ⟨pas, u, ha, h⟩ := bind_eq_ok.1 h
  have k := (access_touches ..).1 _ _ ha
  have ks : Touched u (spurious u).2 := by
    unfold spurious; split
    exacts [touched_drawn _, .refl]
  generalize spurious u = sp at h ks
  split at h
  · split at h
    · cases h; exact ⟨drop (k.trans ks), rfl, .inr rfl⟩
    · obtain ⟨_, w, hw, h⟩ := bind_eq_ok.1 h
      have kw := (writeParts_touches ..).1 _ _ hw
      cases h; exact ⟨drop ((k.trans ks).trans kw), rfl, .inl rfl⟩
  · cases h; exact ⟨drop k, rfl, .inr rfl⟩

theorem fetchWord_state (s : State) (pa : Nat) :
    (fetchWord s pa).2 = s ∨ (fetchWord s pa).2 = drawn s := by
  unfold fetchWord
  dsimp only
  split
  exacts [.inl rfl, .inr rfl]

/-- Everything a fetch can do to the state. -/
theorem fetch_touches (s : State) : Res.Touches s (fetch s) := by
  unfold fetch
  dsimp only
  refine touches_bind (translate_touches ..) fun m s1 _ => touches_bind (checkPhys_touches ..) fun _ s2 _ => ?_
  split
  · exact touches_bind (physRead_touches ..) fun _ _ _ => touches_ok _ .refl
  · rcases fetchWord_state s2 m.pa with h | h <;> refine touches_ok _ ?_ <;> rw [h]
    exacts [.refl, touched_drawn _]

end Sys2Proof.Machine
end

