-- ==== Sys2Proof/Laws/Ops.lean ====
section
/-! SUPPORT. One lemma for each shared operation of the instructions: registers, retiring, traps, the frame an instruction
runs in, CSR writes and fences. -/

namespace Sys2Proof.Machine

/-! ### Width and registers -/

@[simp] theorem wrap_wrap (c : Config) (v : Word) : wrap c (wrap c v) = wrap c v := by
  unfold wrap; split
  · rfl
  · rw [BitVec.and_assoc, BitVec.and_self]

@[simp] theorem wrap_zero (c : Config) : wrap c 0#64 = 0#64 := by unfold wrap; split <;> simp

@[simp] theorem rX_zero (s : State) : rX s 0#5 = 0#64 := if_pos rfl

@[simp] theorem wrap_rX (s : State) (r : Reg) : wrap s.cfg (rX s r) = rX s r := by
  unfold rX; split
  exacts [wrap_zero _, wrap_wrap _ _]

@[simp] theorem wX_zero (s : State) (v : Word) : wX s 0#5 v = s := if_pos rfl

theorem wX_regs {rd : Reg} (h : rd ≠ 0) (s : State) (v : Word) :
    (wX s rd v).regs = s.regs.set rd.toNat (wrap s.cfg v) rd.isLt := by
  unfold wX; rw [if_neg h]

/-- A register reads what was last written to it; x0 reads 0 (10_state R51). -/
theorem rX_wX (s : State) (rd r : Reg) (v : Word) :
    rX (wX s rd v) r = if r = rd ∧ rd ≠ 0 then wrap s.cfg v else rX s r := by
  by_cases h0 : rd = 0
  · subst h0; rw [if_neg (fun k => k.2 rfl)]; rfl
  · by_cases hr : r = 0
    · subst hr; rw [if_neg (fun k => h0 k.1.symm)]; rfl
    · unfold rX
      rw [if_neg hr, if_neg hr, wX_cfg, wX_regs h0]
      by_cases h : r = rd
      · subst h
        rw [if_pos ⟨rfl, h0⟩]
        simp [Vector.get_eq_getElem]
      · have hn : rd.toNat ≠ r.toNat := fun k => h (BitVec.eq_of_toNat_eq k.symm)
        rw [if_neg fun k => h k.1]
        simp [Vector.get_eq_getElem, hn]

/-- The register reads as it did if the registers and the configuration are as they were. -/
theorem rX_congr {s t : State} (hr : t.regs = s.regs) (hc : t.cfg = s.cfg) (r : Reg) : rX t r = rX s r := by
  simp [rX, hr, hc]

@[simp] theorem rX_retireTo (s : State) (t : Word) (r : Reg) : rX (retireTo s t) r = rX s r :=
  rX_congr (by simp) (by simp) r

/-! ### The frame in which an instruction runs -/

/-- A next state is the completed operation's, or the trap that the operation's exception takes. -/
theorem conclude_eq_next {inst : Inst} {r : Res Unit} {t : State} :
    conclude inst r = .next t ↔ r = .ok () t ∨ ∃ e u, r = .trap e u ∧ t = raise u inst e := by
  cases r <;> simp [conclude, eq_comm]

theorem run_available {i : Instr} {s : State} (h : i.available s.cfg = true) (body : State → Res Unit) :
    run i s body = conclude (encode i) (body s) := by
  simp [run, h]

theorem run_unavailable {i : Instr} {s : State} (h : i.available s.cfg = false) (body : State → Res Unit) :
    run i s body = .next (raise s (encode i) (illegalExc (encode i))) := by
  simp [run, h]

/-- Everything an instruction can answer with a next state. -/
theorem run_eq_next {i : Instr} {s t : State} {body : State → Res Unit} (h : run i s body = .next t) :
    body s = .ok () t ∨ (∃ e u, body s = .trap e u ∧ t = raise u (encode i) e) ∨
      t = raise s (encode i) (illegalExc (encode i)) := by
  unfold run at h
  split at h
  · exact (conclude_eq_next.1 h).imp_right .inl
  · cases h; exact .inr (.inr rfl)

/-- A permission check: the body, or the exception that denies it. -/
theorem permit_eq_ok {i : Instr} {s t : State} {d : Option Denied} {body : Res Unit}
    (h : permit i s d body = .ok () t) : d = none ∧ body = .ok () t := by
  unfold permit illegal virtualInstr at h
  split at h
  exacts [⟨rfl, h⟩, (by cases h), (by cases h)]

theorem permit_eq_trap {i : Instr} {s t : State} {d : Option Denied} {body : Res Unit} {e : Exc}
    (h : permit i s d body = .trap e t) :
    (d = none ∧ body = .trap e t) ∨ (d = some .illegal ∧ e = illegalExc (encode i) ∧ t = s) ∨
      (d = some .virtual ∧ e = virtualExc (encode i) ∧ t = s) := by
  unfold permit illegal virtualInstr at h
  split at h
  · exact .inl ⟨rfl, h⟩
  · cases h; exact .inr (.inl ⟨rfl, rfl, rfl⟩)
  · cases h; exact .inr (.inr ⟨rfl, rfl, rfl⟩)

/-- A jump: to an aligned target with the link written, or the exception of a misaligned one. -/
theorem jump_cases (s : State) (rd : Reg) (t : Word) :
    (t.extractLsb' 0 2 = 0 ∧ jump s rd t = .ok () (retireTo (wX s rd (nextPc s)) t)) ∨
      (t.extractLsb' 0 2 ≠ 0 ∧ jump s rd t = .trap (instrExc 0 t s.virt) s) := by
  unfold jump
  split
  exacts [.inl ⟨‹_›, rfl⟩, .inr ⟨‹_›, rfl⟩]

/-- A branch: not taken, taken to an aligned target, or the exception of a taken one. -/
theorem branch_cases (s : State) (cond : Bool) (imm : BitVec 12) :
    let t := wrap s.cfg (s.pc + branchOffset imm)
    (cond = false ∧ branch s cond imm = .ok () (retire s)) ∨
      (cond = true ∧ t.extractLsb' 0 2 = 0 ∧ branch s cond imm = .ok () (retireTo s t)) ∨
      (cond = true ∧ t.extractLsb' 0 2 ≠ 0 ∧ branch s cond imm = .trap (instrExc 0 t s.virt) s) := by
  unfold branch
  dsimp only
  split
  · split
    exacts [.inr (.inl ⟨‹_›, ‹_›, rfl⟩), .inr (.inr ⟨‹_›, ‹_›, rfl⟩)]
  · exact .inl ⟨Bool.eq_false_iff.2 ‹_›, rfl⟩

/-! ### Memory instructions -/

/-- A load that completes: what its access did, then rd is written and the instruction retires. -/
theorem loadTo_eq_ok {s t : State} {via : Via} {u : PmaUse} {rd : Reg} {ea : Word} {n : Nat} {signed : Bool}
    (h : loadTo s via u rd ea n signed = .ok () t) :
    ∃ v s1, memRead s via u ea n = .ok v s1 ∧ Touched s s1 ∧
      t = retire (wX s1 rd (if signed then sextBytes n v else v)) := by
  obtain ⟨v, s1, hr, h⟩ := bind_eq_ok.1 h
  cases h
  exact ⟨v, s1, hr, (memRead_touches ..).1 _ _ hr, rfl⟩

/-- A load that traps leaves what its access did. -/
theorem loadTo_eq_trap {s t : State} {via : Via} {u : PmaUse} {rd : Reg} {ea : Word} {n : Nat} {signed : Bool} {e : Exc}
    (h : loadTo s via u rd ea n signed = .trap e t) : memRead s via u ea n = .trap e t ∧ Touched s t := by
  rcases bind_eq_trap.1 h with h | ⟨_, _, _, h⟩
  exacts [⟨h, (memRead_touches ..).2 _ _ h⟩, by cases h]

/-- A store that completes. -/
theorem storeFrom_eq_ok {s t : State} {via : Via} {ea : Word} {n : Nat} {v : Word}
    (h : storeFrom s via ea n v = .ok () t) :
    ∃ s1, memWrite s via ea n v = .ok () s1 ∧ Touched s s1 ∧ t = retire s1 := by
  obtain ⟨_, s1, hw, h⟩ := bind_eq_ok.1 h
  cases h
  exact ⟨s1, hw, (memWrite_touches ..).1 _ _ hw, rfl⟩

/-- A store that traps leaves what its access did. -/
theorem storeFrom_eq_trap {s t : State} {via : Via} {ea : Word} {n : Nat} {v : Word} {e : Exc}
    (h : storeFrom s via ea n v = .trap e t) : memWrite s via ea n v = .trap e t ∧ Touched s t := by
  rcases bind_eq_trap.1 h with h | ⟨_, _, _, h⟩
  exacts [⟨h, (memWrite_touches ..).2 _ _ h⟩, by cases h]

/-- An AMO that completes. -/
theorem amoTo_eq_ok {s t : State} {rd : Reg} {op : AmoOp} {ea : Word} {n : Nat} {src : Word}
    (h : amoTo s rd op ea n src = .ok () t) :
    ∃ old s1, amo s op ea n src = .ok old s1 ∧ Touched s s1 ∧ t = retire (wX s1 rd (sextBytes n old)) := by
  obtain ⟨old, s1, ha, h⟩ := bind_eq_ok.1 h
  cases h
  exact ⟨old, s1, ha, (amo_touches ..).1 _ _ ha, rfl⟩

/-! ### Traps -/

/-- The bits of a word after one of them is set. -/
theorem getLsbD_setBit (w : Word) (i k : Nat) (b : Bool) (hi : i < 64) :
    (setBit w i b).getLsbD k = if k = i then b else w.getLsbD k := by
  have mask : (bitMask i).getLsbD k = decide (k = i) := by
    unfold bitMask
    rw [BitVec.getLsbD_ofNat, Nat.testBit_two_pow]
    by_cases h : i = k
    · subst h; simp [hi]
    · simp [h, Ne.symm h]
  unfold setBit
  by_cases h : k = i
  · subst h
    cases b <;> simp only [Bool.false_eq_true, if_false, if_true, BitVec.getLsbD_and, BitVec.getLsbD_or,
      BitVec.getLsbD_not, mask] <;> simp
  · cases b <;> simp only [Bool.false_eq_true, if_false, if_true, BitVec.getLsbD_and, BitVec.getLsbD_or,
      BitVec.getLsbD_not, mask, h] <;> simp
    exact fun k1 => BitVec.lt_of_getLsbD k1


/-! The parts of a trap entry that save and change the mode leave the rest. -/

@[simp] theorem enterM_cfg (s : State) (cause tval tval2 tinst : Word) (gva : Bool) :
    (enterM s cause tval tval2 tinst gva).cfg = s.cfg := by
  simp only [enterM, setMode_cfg]; split <;> simp
@[simp] theorem enterM_regs (s : State) (cause tval tval2 tinst : Word) (gva : Bool) :
    (enterM s cause tval tval2 tinst gva).regs = s.regs := by
  simp only [enterM, setMode_regs]; split <;> simp
@[simp] theorem enterM_pc (s : State) (cause tval tval2 tinst : Word) (gva : Bool) :
    (enterM s cause tval tval2 tinst gva).pc = s.pc := by
  simp only [enterM, setMode_pc]; split <;> simp
@[simp] theorem enterM_pmp (s : State) (cause tval tval2 tinst : Word) (gva : Bool) :
    (enterM s cause tval tval2 tinst gva).pmp = s.pmp := by
  simp only [enterM, setMode_pmp]; split <;> simp
@[simp] theorem enterM_sv (s : State) (cause tval tval2 tinst : Word) (gva : Bool) :
    (enterM s cause tval tval2 tinst gva).sv = s.sv := by
  simp only [enterM, setMode_sv]; split <;> simp
@[simp] theorem enterM_h (s : State) (cause tval tval2 tinst : Word) (gva : Bool) :
    (enterM s cause tval tval2 tinst gva).h = s.h := by
  simp only [enterM, setMode_h]; split <;> simp
@[simp] theorem enterM_vs (s : State) (cause tval tval2 tinst : Word) (gva : Bool) :
    (enterM s cause tval tval2 tinst gva).vs = s.vs := by
  simp only [enterM, setMode_vs]; split <;> simp
@[simp] theorem enterM_plat (s : State) (cause tval tval2 tinst : Word) (gva : Bool) :
    (enterM s cause tval tval2 tinst gva).plat = s.plat := by
  simp only [enterM, setMode_plat]; split <;> simp
@[simp] theorem enterM_mem (s : State) (cause tval tval2 tinst : Word) (gva : Bool) :
    (enterM s cause tval tval2 tinst gva).mem = s.mem := by
  simp only [enterM, setMode_mem]; split <;> simp
@[simp] theorem enterM_resv (s : State) (cause tval tval2 tinst : Word) (gva : Bool) :
    (enterM s cause tval tval2 tinst gva).resv = s.resv := by
  simp only [enterM, setMode_resv]; split <;> simp
@[simp] theorem enterM_stalled (s : State) (cause tval tval2 tinst : Word) (gva : Bool) :
    (enterM s cause tval tval2 tinst gva).stalled = s.stalled := by
  simp only [enterM, setMode_stalled]; split <;> simp
@[simp] theorem enterM_tc (s : State) (cause tval tval2 tinst : Word) (gva : Bool) :
    (enterM s cause tval tval2 tinst gva).tc = s.tc := by
  simp only [enterM, setMode_tc]; split <;> simp
@[simp] theorem enterM_istale (s : State) (cause tval tval2 tinst : Word) (gva : Bool) :
    (enterM s cause tval tval2 tinst gva).istale = s.istale := by
  simp only [enterM, setMode_istale]; split <;> simp
@[simp] theorem enterM_pmpStale (s : State) (cause tval tval2 tinst : Word) (gva : Bool) :
    (enterM s cause tval tval2 tinst gva).pmpStale = s.pmpStale := by
  simp only [enterM, setMode_pmpStale]; split <;> simp
@[simp] theorem enterM_pmpStaleG (s : State) (cause tval tval2 tinst : Word) (gva : Bool) :
    (enterM s cause tval tval2 tinst gva).pmpStaleG = s.pmpStaleG := by
  simp only [enterM, setMode_pmpStaleG]; split <;> simp
@[simp] theorem enterM_inputs (s : State) (cause tval tval2 tinst : Word) (gva : Bool) :
    (enterM s cause tval tval2 tinst gva).inputs = s.inputs := by
  simp only [enterM, setMode_inputs]; split <;> simp
@[simp] theorem enterM_draws (s : State) (cause tval tval2 tinst : Word) (gva : Bool) :
    (enterM s cause tval tval2 tinst gva).draws = s.draws := by
  simp only [enterM, setMode_draws]; split <;> simp

@[simp] theorem enterS_cfg (s : State) (cause tval tval2 tinst : Word) (gva : Bool) :
    (enterS s cause tval tval2 tinst gva).cfg = s.cfg := by
  simp only [enterS, setMode_cfg]; split
  · split <;> simp
  · simp
@[simp] theorem enterS_regs (s : State) (cause tval tval2 tinst : Word) (gva : Bool) :
    (enterS s cause tval tval2 tinst gva).regs = s.regs := by
  simp only [enterS, setMode_regs]; split
  · split <;> simp
  · simp
@[simp] theorem enterS_pc (s : State) (cause tval tval2 tinst : Word) (gva : Bool) :
    (enterS s cause tval tval2 tinst gva).pc = s.pc := by
  simp only [enterS, setMode_pc]; split
  · split <;> simp
  · simp
@[simp] theorem enterS_pmp (s : State) (cause tval tval2 tinst : Word) (gva : Bool) :
    (enterS s cause tval tval2 tinst gva).pmp = s.pmp := by
  simp only [enterS, setMode_pmp]; split
  · split <;> simp
  · simp
@[simp] theorem enterS_vs (s : State) (cause tval tval2 tinst : Word) (gva : Bool) :
    (enterS s cause tval tval2 tinst gva).vs = s.vs := by
  simp only [enterS, setMode_vs]; split
  · split <;> simp
  · simp
@[simp] theorem enterS_plat (s : State) (cause tval tval2 tinst : Word) (gva : Bool) :
    (enterS s cause tval tval2 tinst gva).plat = s.plat := by
  simp only [enterS, setMode_plat]; split
  · split <;> simp
  · simp
@[simp] theorem enterS_mem (s : State) (cause tval tval2 tinst : Word) (gva : Bool) :
    (enterS s cause tval tval2 tinst gva).mem = s.mem := by
  simp only [enterS, setMode_mem]; split
  · split <;> simp
  · simp
@[simp] theorem enterS_resv (s : State) (cause tval tval2 tinst : Word) (gva : Bool) :
    (enterS s cause tval tval2 tinst gva).resv = s.resv := by
  simp only [enterS, setMode_resv]; split
  · split <;> simp
  · simp
@[simp] theorem enterS_stalled (s : State) (cause tval tval2 tinst : Word) (gva : Bool) :
    (enterS s cause tval tval2 tinst gva).stalled = s.stalled := by
  simp only [enterS, setMode_stalled]; split
  · split <;> simp
  · simp
@[simp] theorem enterS_tc (s : State) (cause tval tval2 tinst : Word) (gva : Bool) :
    (enterS s cause tval tval2 tinst gva).tc = s.tc := by
  simp only [enterS, setMode_tc]; split
  · split <;> simp
  · simp
@[simp] theorem enterS_istale (s : State) (cause tval tval2 tinst : Word) (gva : Bool) :
    (enterS s cause tval tval2 tinst gva).istale = s.istale := by
  simp only [enterS, setMode_istale]; split
  · split <;> simp
  · simp
@[simp] theorem enterS_pmpStale (s : State) (cause tval tval2 tinst : Word) (gva : Bool) :
    (enterS s cause tval tval2 tinst gva).pmpStale = s.pmpStale := by
  simp only [enterS, setMode_pmpStale]; split
  · split <;> simp
  · simp
@[simp] theorem enterS_pmpStaleG (s : State) (cause tval tval2 tinst : Word) (gva : Bool) :
    (enterS s cause tval tval2 tinst gva).pmpStaleG = s.pmpStaleG := by
  simp only [enterS, setMode_pmpStaleG]; split
  · split <;> simp
  · simp
@[simp] theorem enterS_inputs (s : State) (cause tval tval2 tinst : Word) (gva : Bool) :
    (enterS s cause tval tval2 tinst gva).inputs = s.inputs := by
  simp only [enterS, setMode_inputs]; split
  · split <;> simp
  · simp
@[simp] theorem enterS_draws (s : State) (cause tval tval2 tinst : Word) (gva : Bool) :
    (enterS s cause tval tval2 tinst gva).draws = s.draws := by
  simp only [enterS, setMode_draws]; split
  · split <;> simp
  · simp

@[simp] theorem enterVS_cfg (s : State) (cause tval : Word) : (enterVS s cause tval).cfg = s.cfg := by simp [enterVS]
@[simp] theorem enterVS_regs (s : State) (cause tval : Word) : (enterVS s cause tval).regs = s.regs := by simp [enterVS]
@[simp] theorem enterVS_pc (s : State) (cause tval : Word) : (enterVS s cause tval).pc = s.pc := by simp [enterVS]
@[simp] theorem enterVS_virt (s : State) (cause tval : Word) : (enterVS s cause tval).virt = s.virt := by simp [enterVS]
@[simp] theorem enterVS_m (s : State) (cause tval : Word) : (enterVS s cause tval).m = s.m := by simp [enterVS]
@[simp] theorem enterVS_pmp (s : State) (cause tval : Word) : (enterVS s cause tval).pmp = s.pmp := by simp [enterVS]
@[simp] theorem enterVS_sv (s : State) (cause tval : Word) : (enterVS s cause tval).sv = s.sv := by simp [enterVS]
@[simp] theorem enterVS_h (s : State) (cause tval : Word) : (enterVS s cause tval).h = s.h := by simp [enterVS]
@[simp] theorem enterVS_plat (s : State) (cause tval : Word) : (enterVS s cause tval).plat = s.plat := by simp [enterVS]
@[simp] theorem enterVS_mem (s : State) (cause tval : Word) : (enterVS s cause tval).mem = s.mem := by simp [enterVS]
@[simp] theorem enterVS_resv (s : State) (cause tval : Word) : (enterVS s cause tval).resv = s.resv := by simp [enterVS]
@[simp] theorem enterVS_stalled (s : State) (cause tval : Word) : (enterVS s cause tval).stalled = s.stalled := by simp [enterVS]
@[simp] theorem enterVS_tc (s : State) (cause tval : Word) : (enterVS s cause tval).tc = s.tc := by simp [enterVS]
@[simp] theorem enterVS_istale (s : State) (cause tval : Word) : (enterVS s cause tval).istale = s.istale := by simp [enterVS]
@[simp] theorem enterVS_pmpStale (s : State) (cause tval : Word) : (enterVS s cause tval).pmpStale = s.pmpStale := by simp [enterVS]
@[simp] theorem enterVS_pmpStaleG (s : State) (cause tval : Word) : (enterVS s cause tval).pmpStaleG = s.pmpStaleG := by simp [enterVS]
@[simp] theorem enterVS_inputs (s : State) (cause tval : Word) : (enterVS s cause tval).inputs = s.inputs := by simp [enterVS]
@[simp] theorem enterVS_draws (s : State) (cause tval : Word) : (enterVS s cause tval).draws = s.draws := by simp [enterVS]

@[simp] theorem enterM_priv (s : State) (cause tval tval2 tinst : Word) (gva : Bool) :
    (enterM s cause tval tval2 tinst gva).priv = .M := rfl

@[simp] theorem enterM_virt (s : State) (cause tval tval2 tinst : Word) (gva : Bool) :
    (enterM s cause tval tval2 tinst gva).virt = false := rfl

@[simp] theorem enterS_priv (s : State) (cause tval tval2 tinst : Word) (gva : Bool) :
    (enterS s cause tval tval2 tinst gva).priv = .S := rfl

@[simp] theorem enterS_virt (s : State) (cause tval tval2 tinst : Word) (gva : Bool) :
    (enterS s cause tval tval2 tinst gva).virt = false := rfl

@[simp] theorem enterVS_priv (s : State) (cause tval : Word) : (enterVS s cause tval).priv = .S := rfl

/-! A trap leaves everything but pc, the mode and the trap registers of its destination. -/

@[simp] theorem takeTrap_cfg (s : State) (irq : Bool) (code : Nat) (d : Dest) (tval tval2 tinst : Word) (gva : Bool) :
    (takeTrap s irq code d tval tval2 tinst gva).cfg = s.cfg := by
  cases d <;> simp [takeTrap]
@[simp] theorem takeTrap_regs (s : State) (irq : Bool) (code : Nat) (d : Dest) (tval tval2 tinst : Word) (gva : Bool) :
    (takeTrap s irq code d tval tval2 tinst gva).regs = s.regs := by
  cases d <;> simp [takeTrap]
@[simp] theorem takeTrap_pmp (s : State) (irq : Bool) (code : Nat) (d : Dest) (tval tval2 tinst : Word) (gva : Bool) :
    (takeTrap s irq code d tval tval2 tinst gva).pmp = s.pmp := by
  cases d <;> simp [takeTrap]
@[simp] theorem takeTrap_plat (s : State) (irq : Bool) (code : Nat) (d : Dest) (tval tval2 tinst : Word) (gva : Bool) :
    (takeTrap s irq code d tval tval2 tinst gva).plat = s.plat := by
  cases d <;> simp [takeTrap]
@[simp] theorem takeTrap_mem (s : State) (irq : Bool) (code : Nat) (d : Dest) (tval tval2 tinst : Word) (gva : Bool) :
    (takeTrap s irq code d tval tval2 tinst gva).mem = s.mem := by
  cases d <;> simp [takeTrap]
@[simp] theorem takeTrap_resv (s : State) (irq : Bool) (code : Nat) (d : Dest) (tval tval2 tinst : Word) (gva : Bool) :
    (takeTrap s irq code d tval tval2 tinst gva).resv = s.resv := by
  cases d <;> simp [takeTrap]
@[simp] theorem takeTrap_stalled (s : State) (irq : Bool) (code : Nat) (d : Dest) (tval tval2 tinst : Word) (gva : Bool) :
    (takeTrap s irq code d tval tval2 tinst gva).stalled = s.stalled := by
  cases d <;> simp [takeTrap]
@[simp] theorem takeTrap_tc (s : State) (irq : Bool) (code : Nat) (d : Dest) (tval tval2 tinst : Word) (gva : Bool) :
    (takeTrap s irq code d tval tval2 tinst gva).tc = s.tc := by
  cases d <;> simp [takeTrap]
@[simp] theorem takeTrap_istale (s : State) (irq : Bool) (code : Nat) (d : Dest) (tval tval2 tinst : Word) (gva : Bool) :
    (takeTrap s irq code d tval tval2 tinst gva).istale = s.istale := by
  cases d <;> simp [takeTrap]
@[simp] theorem takeTrap_pmpStale (s : State) (irq : Bool) (code : Nat) (d : Dest) (tval tval2 tinst : Word) (gva : Bool) :
    (takeTrap s irq code d tval tval2 tinst gva).pmpStale = s.pmpStale := by
  cases d <;> simp [takeTrap]
@[simp] theorem takeTrap_pmpStaleG (s : State) (irq : Bool) (code : Nat) (d : Dest) (tval tval2 tinst : Word) (gva : Bool) :
    (takeTrap s irq code d tval tval2 tinst gva).pmpStaleG = s.pmpStaleG := by
  cases d <;> simp [takeTrap]
@[simp] theorem takeTrap_inputs (s : State) (irq : Bool) (code : Nat) (d : Dest) (tval tval2 tinst : Word) (gva : Bool) :
    (takeTrap s irq code d tval tval2 tinst gva).inputs = s.inputs := by
  cases d <;> simp [takeTrap]
@[simp] theorem takeTrap_draws (s : State) (irq : Bool) (code : Nat) (d : Dest) (tval tval2 tinst : Word) (gva : Bool) :
    (takeTrap s irq code d tval tval2 tinst gva).draws = s.draws := by
  cases d <;> simp [takeTrap]

@[simp] theorem raise_cfg (s : State) (inst : Inst) (e : Exc) : (raise s inst e).cfg = s.cfg := by simp [raise]
@[simp] theorem raise_regs (s : State) (inst : Inst) (e : Exc) : (raise s inst e).regs = s.regs := by simp [raise]
@[simp] theorem raise_pmp (s : State) (inst : Inst) (e : Exc) : (raise s inst e).pmp = s.pmp := by simp [raise]
@[simp] theorem raise_plat (s : State) (inst : Inst) (e : Exc) : (raise s inst e).plat = s.plat := by simp [raise]
@[simp] theorem raise_mem (s : State) (inst : Inst) (e : Exc) : (raise s inst e).mem = s.mem := by simp [raise]
@[simp] theorem raise_resv (s : State) (inst : Inst) (e : Exc) : (raise s inst e).resv = s.resv := by simp [raise]
@[simp] theorem raise_stalled (s : State) (inst : Inst) (e : Exc) : (raise s inst e).stalled = s.stalled := by simp [raise]
@[simp] theorem raise_tc (s : State) (inst : Inst) (e : Exc) : (raise s inst e).tc = s.tc := by simp [raise]
@[simp] theorem raise_istale (s : State) (inst : Inst) (e : Exc) : (raise s inst e).istale = s.istale := by simp [raise]
@[simp] theorem raise_pmpStale (s : State) (inst : Inst) (e : Exc) : (raise s inst e).pmpStale = s.pmpStale := by simp [raise]
@[simp] theorem raise_pmpStaleG (s : State) (inst : Inst) (e : Exc) : (raise s inst e).pmpStaleG = s.pmpStaleG := by simp [raise]
@[simp] theorem raise_inputs (s : State) (inst : Inst) (e : Exc) : (raise s inst e).inputs = s.inputs := by simp [raise]
@[simp] theorem raise_draws (s : State) (inst : Inst) (e : Exc) : (raise s inst e).draws = s.draws := by simp [raise]

/-- The mode after a trap. -/
theorem takeTrap_mode (s : State) (irq : Bool) (code : Nat) (d : Dest) (tval tval2 tinst : Word) (gva : Bool) :
    (takeTrap s irq code d tval tval2 tinst gva).priv = (if d = .M then .M else .S) ∧
      (takeTrap s irq code d tval tval2 tinst gva).virt = if d = .VS then s.virt else false := by
  cases d <;> simp [takeTrap]

/-- The new pc of a trap is an address of the destination's vector. -/
theorem takeTrap_pc (s : State) (irq : Bool) (code : Nat) (d : Dest) (tval tval2 tinst : Word) (gva : Bool) :
    (takeTrap s irq code d tval tval2 tinst gva).pc =
      match d with
      | .M => wrap s.cfg (vector s.cfg s.m.mtvec irq code)
      | .S => wrap s.cfg (vector s.cfg s.sv.stvec irq code)
      | .VS => wrap s.cfg (vector s.cfg s.vs.vstvec irq (if irq then code - 1 else code)) := by
  cases d <;> simp [takeTrap]

/-- An exception of M-mode is taken into M-mode (60_exceptions R861). -/
theorem excDest_machine {s : State} (h : s.priv = .M) (code : Nat) : excDest s code = .M := by simp [excDest, h]

/-! ### CSR writes -/

@[simp] theorem setPmp_cfg (s : State) (p : Pmp) : (setPmp s p).cfg = s.cfg := by
  unfold setPmp; split
  · rfl
  split <;> rfl
@[simp] theorem setPmp_regs (s : State) (p : Pmp) : (setPmp s p).regs = s.regs := by
  unfold setPmp; split
  · rfl
  split <;> rfl
@[simp] theorem setPmp_pc (s : State) (p : Pmp) : (setPmp s p).pc = s.pc := by
  unfold setPmp; split
  · rfl
  split <;> rfl
@[simp] theorem setPmp_priv (s : State) (p : Pmp) : (setPmp s p).priv = s.priv := by
  unfold setPmp; split
  · rfl
  split <;> rfl
@[simp] theorem setPmp_virt (s : State) (p : Pmp) : (setPmp s p).virt = s.virt := by
  unfold setPmp; split
  · rfl
  split <;> rfl
@[simp] theorem setPmp_plat (s : State) (p : Pmp) : (setPmp s p).plat = s.plat := by
  unfold setPmp; split
  · rfl
  split <;> rfl
@[simp] theorem setPmp_mem (s : State) (p : Pmp) : (setPmp s p).mem = s.mem := by
  unfold setPmp; split
  · rfl
  split <;> rfl
@[simp] theorem setPmp_resv (s : State) (p : Pmp) : (setPmp s p).resv = s.resv := by
  unfold setPmp; split
  · rfl
  split <;> rfl
@[simp] theorem setPmp_stalled (s : State) (p : Pmp) : (setPmp s p).stalled = s.stalled := by
  unfold setPmp; split
  · rfl
  split <;> rfl
@[simp] theorem setPmp_tc (s : State) (p : Pmp) : (setPmp s p).tc = s.tc := by
  unfold setPmp; split
  · rfl
  split <;> rfl
@[simp] theorem setPmp_istale (s : State) (p : Pmp) : (setPmp s p).istale = s.istale := by
  unfold setPmp; split
  · rfl
  split <;> rfl
@[simp] theorem setPmp_inputs (s : State) (p : Pmp) : (setPmp s p).inputs = s.inputs := by
  unfold setPmp; split
  · rfl
  split <;> rfl

@[simp] theorem setMenvcfg_cfg (s : State) (v : Word) : (setMenvcfg s v).cfg = s.cfg := by
  unfold setMenvcfg; dsimp only; split
  · rfl
  split <;> rfl
@[simp] theorem setMenvcfg_regs (s : State) (v : Word) : (setMenvcfg s v).regs = s.regs := by
  unfold setMenvcfg; dsimp only; split
  · rfl
  split <;> rfl
@[simp] theorem setMenvcfg_pc (s : State) (v : Word) : (setMenvcfg s v).pc = s.pc := by
  unfold setMenvcfg; dsimp only; split
  · rfl
  split <;> rfl
@[simp] theorem setMenvcfg_priv (s : State) (v : Word) : (setMenvcfg s v).priv = s.priv := by
  unfold setMenvcfg; dsimp only; split
  · rfl
  split <;> rfl
@[simp] theorem setMenvcfg_virt (s : State) (v : Word) : (setMenvcfg s v).virt = s.virt := by
  unfold setMenvcfg; dsimp only; split
  · rfl
  split <;> rfl
@[simp] theorem setMenvcfg_plat (s : State) (v : Word) : (setMenvcfg s v).plat = s.plat := by
  unfold setMenvcfg; dsimp only; split
  · rfl
  split <;> rfl
@[simp] theorem setMenvcfg_mem (s : State) (v : Word) : (setMenvcfg s v).mem = s.mem := by
  unfold setMenvcfg; dsimp only; split
  · rfl
  split <;> rfl
@[simp] theorem setMenvcfg_resv (s : State) (v : Word) : (setMenvcfg s v).resv = s.resv := by
  unfold setMenvcfg; dsimp only; split
  · rfl
  split <;> rfl
@[simp] theorem setMenvcfg_stalled (s : State) (v : Word) : (setMenvcfg s v).stalled = s.stalled := by
  unfold setMenvcfg; dsimp only; split
  · rfl
  split <;> rfl
@[simp] theorem setMenvcfg_tc (s : State) (v : Word) : (setMenvcfg s v).tc = s.tc := by
  unfold setMenvcfg; dsimp only; split
  · rfl
  split <;> rfl
@[simp] theorem setMenvcfg_istale (s : State) (v : Word) : (setMenvcfg s v).istale = s.istale := by
  unfold setMenvcfg; dsimp only; split
  · rfl
  split <;> rfl
@[simp] theorem setMenvcfg_inputs (s : State) (v : Word) : (setMenvcfg s v).inputs = s.inputs := by
  unfold setMenvcfg; dsimp only; split
  · rfl
  split <;> rfl

@[simp] theorem setMip_cfg (s : State) (v : Word) : (setMip s v).cfg = s.cfg := by
  unfold setMip setHvip; dsimp only; split <;> split <;> rfl
@[simp] theorem setMip_regs (s : State) (v : Word) : (setMip s v).regs = s.regs := by
  unfold setMip setHvip; dsimp only; split <;> split <;> rfl
@[simp] theorem setMip_pc (s : State) (v : Word) : (setMip s v).pc = s.pc := by
  unfold setMip setHvip; dsimp only; split <;> split <;> rfl
@[simp] theorem setMip_priv (s : State) (v : Word) : (setMip s v).priv = s.priv := by
  unfold setMip setHvip; dsimp only; split <;> split <;> rfl
@[simp] theorem setMip_virt (s : State) (v : Word) : (setMip s v).virt = s.virt := by
  unfold setMip setHvip; dsimp only; split <;> split <;> rfl
@[simp] theorem setMip_plat (s : State) (v : Word) : (setMip s v).plat = s.plat := by
  unfold setMip setHvip; dsimp only; split <;> split <;> rfl
@[simp] theorem setMip_mem (s : State) (v : Word) : (setMip s v).mem = s.mem := by
  unfold setMip setHvip; dsimp only; split <;> split <;> rfl
@[simp] theorem setMip_resv (s : State) (v : Word) : (setMip s v).resv = s.resv := by
  unfold setMip setHvip; dsimp only; split <;> split <;> rfl
@[simp] theorem setMip_stalled (s : State) (v : Word) : (setMip s v).stalled = s.stalled := by
  unfold setMip setHvip; dsimp only; split <;> split <;> rfl
@[simp] theorem setMip_tc (s : State) (v : Word) : (setMip s v).tc = s.tc := by
  unfold setMip setHvip; dsimp only; split <;> split <;> rfl
@[simp] theorem setMip_istale (s : State) (v : Word) : (setMip s v).istale = s.istale := by
  unfold setMip setHvip; dsimp only; split <;> split <;> rfl
@[simp] theorem setMip_inputs (s : State) (v : Word) : (setMip s v).inputs = s.inputs := by
  unfold setMip setHvip; dsimp only; split <;> split <;> rfl

/-! A CSR write leaves the registers, pc, the mode, memory, the platform and the caches. -/

@[simp] theorem csrWrite_cfg (s : State) (r : Csr) (v : Word) : (csrWrite s r v).cfg = s.cfg := by
  cases r <;> simp [csrWrite, csrWrite.hpmWrite, setMie, setHvip] <;> split <;> first | rfl | (split <;> rfl)
@[simp] theorem csrWrite_regs (s : State) (r : Csr) (v : Word) : (csrWrite s r v).regs = s.regs := by
  cases r <;> simp [csrWrite, csrWrite.hpmWrite, setMie, setHvip] <;> split <;> first | rfl | (split <;> rfl)
@[simp] theorem csrWrite_pc (s : State) (r : Csr) (v : Word) : (csrWrite s r v).pc = s.pc := by
  cases r <;> simp [csrWrite, csrWrite.hpmWrite, setMie, setHvip] <;> split <;> first | rfl | (split <;> rfl)
@[simp] theorem csrWrite_priv (s : State) (r : Csr) (v : Word) : (csrWrite s r v).priv = s.priv := by
  cases r <;> simp [csrWrite, csrWrite.hpmWrite, setMie, setHvip] <;> split <;> first | rfl | (split <;> rfl)
@[simp] theorem csrWrite_virt (s : State) (r : Csr) (v : Word) : (csrWrite s r v).virt = s.virt := by
  cases r <;> simp [csrWrite, csrWrite.hpmWrite, setMie, setHvip] <;> split <;> first | rfl | (split <;> rfl)
@[simp] theorem csrWrite_plat (s : State) (r : Csr) (v : Word) : (csrWrite s r v).plat = s.plat := by
  cases r <;> simp [csrWrite, csrWrite.hpmWrite, setMie, setHvip] <;> split <;> first | rfl | (split <;> rfl)
@[simp] theorem csrWrite_mem (s : State) (r : Csr) (v : Word) : (csrWrite s r v).mem = s.mem := by
  cases r <;> simp [csrWrite, csrWrite.hpmWrite, setMie, setHvip] <;> split <;> first | rfl | (split <;> rfl)
@[simp] theorem csrWrite_resv (s : State) (r : Csr) (v : Word) : (csrWrite s r v).resv = s.resv := by
  cases r <;> simp [csrWrite, csrWrite.hpmWrite, setMie, setHvip] <;> split <;> first | rfl | (split <;> rfl)
@[simp] theorem csrWrite_stalled (s : State) (r : Csr) (v : Word) : (csrWrite s r v).stalled = s.stalled := by
  cases r <;> simp [csrWrite, csrWrite.hpmWrite, setMie, setHvip] <;> split <;> first | rfl | (split <;> rfl)
@[simp] theorem csrWrite_tc (s : State) (r : Csr) (v : Word) : (csrWrite s r v).tc = s.tc := by
  cases r <;> simp [csrWrite, csrWrite.hpmWrite, setMie, setHvip] <;> split <;> first | rfl | (split <;> rfl)
@[simp] theorem csrWrite_istale (s : State) (r : Csr) (v : Word) : (csrWrite s r v).istale = s.istale := by
  cases r <;> simp [csrWrite, csrWrite.hpmWrite, setMie, setHvip] <;> split <;> first | rfl | (split <;> rfl)
@[simp] theorem csrWrite_inputs (s : State) (r : Csr) (v : Word) : (csrWrite s r v).inputs = s.inputs := by
  cases r <;> simp [csrWrite, csrWrite.hpmWrite, setMie, setHvip] <;> split <;> first | rfl | (split <;> rfl)

/-! ### Fences -/

@[simp] theorem sfence_cfg (s : State) (rs1 rs2 : Reg) : (sfence s rs1 rs2).cfg = s.cfg := by
  unfold sfence fenceVs fenceSingle syncPmp tcFence; dsimp only; (repeat' split) <;> rfl
@[simp] theorem sfence_regs (s : State) (rs1 rs2 : Reg) : (sfence s rs1 rs2).regs = s.regs := by
  unfold sfence fenceVs fenceSingle syncPmp tcFence; dsimp only; (repeat' split) <;> rfl
@[simp] theorem sfence_pc (s : State) (rs1 rs2 : Reg) : (sfence s rs1 rs2).pc = s.pc := by
  unfold sfence fenceVs fenceSingle syncPmp tcFence; dsimp only; (repeat' split) <;> rfl
@[simp] theorem sfence_priv (s : State) (rs1 rs2 : Reg) : (sfence s rs1 rs2).priv = s.priv := by
  unfold sfence fenceVs fenceSingle syncPmp tcFence; dsimp only; (repeat' split) <;> rfl
@[simp] theorem sfence_virt (s : State) (rs1 rs2 : Reg) : (sfence s rs1 rs2).virt = s.virt := by
  unfold sfence fenceVs fenceSingle syncPmp tcFence; dsimp only; (repeat' split) <;> rfl
@[simp] theorem sfence_m (s : State) (rs1 rs2 : Reg) : (sfence s rs1 rs2).m = s.m := by
  unfold sfence fenceVs fenceSingle syncPmp tcFence; dsimp only; (repeat' split) <;> rfl
@[simp] theorem sfence_pmp (s : State) (rs1 rs2 : Reg) : (sfence s rs1 rs2).pmp = s.pmp := by
  unfold sfence fenceVs fenceSingle syncPmp tcFence; dsimp only; (repeat' split) <;> rfl
@[simp] theorem sfence_sv (s : State) (rs1 rs2 : Reg) : (sfence s rs1 rs2).sv = s.sv := by
  unfold sfence fenceVs fenceSingle syncPmp tcFence; dsimp only; (repeat' split) <;> rfl
@[simp] theorem sfence_h (s : State) (rs1 rs2 : Reg) : (sfence s rs1 rs2).h = s.h := by
  unfold sfence fenceVs fenceSingle syncPmp tcFence; dsimp only; (repeat' split) <;> rfl
@[simp] theorem sfence_vs (s : State) (rs1 rs2 : Reg) : (sfence s rs1 rs2).vs = s.vs := by
  unfold sfence fenceVs fenceSingle syncPmp tcFence; dsimp only; (repeat' split) <;> rfl
@[simp] theorem sfence_plat (s : State) (rs1 rs2 : Reg) : (sfence s rs1 rs2).plat = s.plat := by
  unfold sfence fenceVs fenceSingle syncPmp tcFence; dsimp only; (repeat' split) <;> rfl
@[simp] theorem sfence_mem (s : State) (rs1 rs2 : Reg) : (sfence s rs1 rs2).mem = s.mem := by
  unfold sfence fenceVs fenceSingle syncPmp tcFence; dsimp only; (repeat' split) <;> rfl
@[simp] theorem sfence_resv (s : State) (rs1 rs2 : Reg) : (sfence s rs1 rs2).resv = s.resv := by
  unfold sfence fenceVs fenceSingle syncPmp tcFence; dsimp only; (repeat' split) <;> rfl
@[simp] theorem sfence_stalled (s : State) (rs1 rs2 : Reg) : (sfence s rs1 rs2).stalled = s.stalled := by
  unfold sfence fenceVs fenceSingle syncPmp tcFence; dsimp only; (repeat' split) <;> rfl
@[simp] theorem sfence_istale (s : State) (rs1 rs2 : Reg) : (sfence s rs1 rs2).istale = s.istale := by
  unfold sfence fenceVs fenceSingle syncPmp tcFence; dsimp only; (repeat' split) <;> rfl
@[simp] theorem sfence_inputs (s : State) (rs1 rs2 : Reg) : (sfence s rs1 rs2).inputs = s.inputs := by
  unfold sfence fenceVs fenceSingle syncPmp tcFence; dsimp only; (repeat' split) <;> rfl
@[simp] theorem sfence_draws (s : State) (rs1 rs2 : Reg) : (sfence s rs1 rs2).draws = s.draws := by
  unfold sfence fenceVs fenceSingle syncPmp tcFence; dsimp only; (repeat' split) <;> rfl

@[simp] theorem hfenceV_cfg (s : State) (rs1 rs2 : Reg) : (hfenceV s rs1 rs2).cfg = s.cfg := by
  unfold hfenceV fenceVs tcFence; dsimp only; (repeat' split) <;> rfl
@[simp] theorem hfenceV_regs (s : State) (rs1 rs2 : Reg) : (hfenceV s rs1 rs2).regs = s.regs := by
  unfold hfenceV fenceVs tcFence; dsimp only; (repeat' split) <;> rfl
@[simp] theorem hfenceV_pc (s : State) (rs1 rs2 : Reg) : (hfenceV s rs1 rs2).pc = s.pc := by
  unfold hfenceV fenceVs tcFence; dsimp only; (repeat' split) <;> rfl
@[simp] theorem hfenceV_priv (s : State) (rs1 rs2 : Reg) : (hfenceV s rs1 rs2).priv = s.priv := by
  unfold hfenceV fenceVs tcFence; dsimp only; (repeat' split) <;> rfl
@[simp] theorem hfenceV_virt (s : State) (rs1 rs2 : Reg) : (hfenceV s rs1 rs2).virt = s.virt := by
  unfold hfenceV fenceVs tcFence; dsimp only; (repeat' split) <;> rfl
@[simp] theorem hfenceV_m (s : State) (rs1 rs2 : Reg) : (hfenceV s rs1 rs2).m = s.m := by
  unfold hfenceV fenceVs tcFence; dsimp only; (repeat' split) <;> rfl
@[simp] theorem hfenceV_pmp (s : State) (rs1 rs2 : Reg) : (hfenceV s rs1 rs2).pmp = s.pmp := by
  unfold hfenceV fenceVs tcFence; dsimp only; (repeat' split) <;> rfl
@[simp] theorem hfenceV_sv (s : State) (rs1 rs2 : Reg) : (hfenceV s rs1 rs2).sv = s.sv := by
  unfold hfenceV fenceVs tcFence; dsimp only; (repeat' split) <;> rfl
@[simp] theorem hfenceV_h (s : State) (rs1 rs2 : Reg) : (hfenceV s rs1 rs2).h = s.h := by
  unfold hfenceV fenceVs tcFence; dsimp only; (repeat' split) <;> rfl
@[simp] theorem hfenceV_vs (s : State) (rs1 rs2 : Reg) : (hfenceV s rs1 rs2).vs = s.vs := by
  unfold hfenceV fenceVs tcFence; dsimp only; (repeat' split) <;> rfl
@[simp] theorem hfenceV_plat (s : State) (rs1 rs2 : Reg) : (hfenceV s rs1 rs2).plat = s.plat := by
  unfold hfenceV fenceVs tcFence; dsimp only; (repeat' split) <;> rfl
@[simp] theorem hfenceV_mem (s : State) (rs1 rs2 : Reg) : (hfenceV s rs1 rs2).mem = s.mem := by
  unfold hfenceV fenceVs tcFence; dsimp only; (repeat' split) <;> rfl
@[simp] theorem hfenceV_resv (s : State) (rs1 rs2 : Reg) : (hfenceV s rs1 rs2).resv = s.resv := by
  unfold hfenceV fenceVs tcFence; dsimp only; (repeat' split) <;> rfl
@[simp] theorem hfenceV_stalled (s : State) (rs1 rs2 : Reg) : (hfenceV s rs1 rs2).stalled = s.stalled := by
  unfold hfenceV fenceVs tcFence; dsimp only; (repeat' split) <;> rfl
@[simp] theorem hfenceV_istale (s : State) (rs1 rs2 : Reg) : (hfenceV s rs1 rs2).istale = s.istale := by
  unfold hfenceV fenceVs tcFence; dsimp only; (repeat' split) <;> rfl
@[simp] theorem hfenceV_inputs (s : State) (rs1 rs2 : Reg) : (hfenceV s rs1 rs2).inputs = s.inputs := by
  unfold hfenceV fenceVs tcFence; dsimp only; (repeat' split) <;> rfl
@[simp] theorem hfenceV_draws (s : State) (rs1 rs2 : Reg) : (hfenceV s rs1 rs2).draws = s.draws := by
  unfold hfenceV fenceVs tcFence; dsimp only; (repeat' split) <;> rfl

@[simp] theorem hfenceG_cfg (s : State) (rs1 rs2 : Reg) : (hfenceG s rs1 rs2).cfg = s.cfg := by
  unfold hfenceG fenceG syncPmpG tcFence; dsimp only; (repeat' split) <;> rfl
@[simp] theorem hfenceG_regs (s : State) (rs1 rs2 : Reg) : (hfenceG s rs1 rs2).regs = s.regs := by
  unfold hfenceG fenceG syncPmpG tcFence; dsimp only; (repeat' split) <;> rfl
@[simp] theorem hfenceG_pc (s : State) (rs1 rs2 : Reg) : (hfenceG s rs1 rs2).pc = s.pc := by
  unfold hfenceG fenceG syncPmpG tcFence; dsimp only; (repeat' split) <;> rfl
@[simp] theorem hfenceG_priv (s : State) (rs1 rs2 : Reg) : (hfenceG s rs1 rs2).priv = s.priv := by
  unfold hfenceG fenceG syncPmpG tcFence; dsimp only; (repeat' split) <;> rfl
@[simp] theorem hfenceG_virt (s : State) (rs1 rs2 : Reg) : (hfenceG s rs1 rs2).virt = s.virt := by
  unfold hfenceG fenceG syncPmpG tcFence; dsimp only; (repeat' split) <;> rfl
@[simp] theorem hfenceG_m (s : State) (rs1 rs2 : Reg) : (hfenceG s rs1 rs2).m = s.m := by
  unfold hfenceG fenceG syncPmpG tcFence; dsimp only; (repeat' split) <;> rfl
@[simp] theorem hfenceG_pmp (s : State) (rs1 rs2 : Reg) : (hfenceG s rs1 rs2).pmp = s.pmp := by
  unfold hfenceG fenceG syncPmpG tcFence; dsimp only; (repeat' split) <;> rfl
@[simp] theorem hfenceG_sv (s : State) (rs1 rs2 : Reg) : (hfenceG s rs1 rs2).sv = s.sv := by
  unfold hfenceG fenceG syncPmpG tcFence; dsimp only; (repeat' split) <;> rfl
@[simp] theorem hfenceG_h (s : State) (rs1 rs2 : Reg) : (hfenceG s rs1 rs2).h = s.h := by
  unfold hfenceG fenceG syncPmpG tcFence; dsimp only; (repeat' split) <;> rfl
@[simp] theorem hfenceG_vs (s : State) (rs1 rs2 : Reg) : (hfenceG s rs1 rs2).vs = s.vs := by
  unfold hfenceG fenceG syncPmpG tcFence; dsimp only; (repeat' split) <;> rfl
@[simp] theorem hfenceG_plat (s : State) (rs1 rs2 : Reg) : (hfenceG s rs1 rs2).plat = s.plat := by
  unfold hfenceG fenceG syncPmpG tcFence; dsimp only; (repeat' split) <;> rfl
@[simp] theorem hfenceG_mem (s : State) (rs1 rs2 : Reg) : (hfenceG s rs1 rs2).mem = s.mem := by
  unfold hfenceG fenceG syncPmpG tcFence; dsimp only; (repeat' split) <;> rfl
@[simp] theorem hfenceG_resv (s : State) (rs1 rs2 : Reg) : (hfenceG s rs1 rs2).resv = s.resv := by
  unfold hfenceG fenceG syncPmpG tcFence; dsimp only; (repeat' split) <;> rfl
@[simp] theorem hfenceG_stalled (s : State) (rs1 rs2 : Reg) : (hfenceG s rs1 rs2).stalled = s.stalled := by
  unfold hfenceG fenceG syncPmpG tcFence; dsimp only; (repeat' split) <;> rfl
@[simp] theorem hfenceG_istale (s : State) (rs1 rs2 : Reg) : (hfenceG s rs1 rs2).istale = s.istale := by
  unfold hfenceG fenceG syncPmpG tcFence; dsimp only; (repeat' split) <;> rfl
@[simp] theorem hfenceG_inputs (s : State) (rs1 rs2 : Reg) : (hfenceG s rs1 rs2).inputs = s.inputs := by
  unfold hfenceG fenceG syncPmpG tcFence; dsimp only; (repeat' split) <;> rfl
@[simp] theorem hfenceG_draws (s : State) (rs1 rs2 : Reg) : (hfenceG s rs1 rs2).draws = s.draws := by
  unfold hfenceG fenceG syncPmpG tcFence; dsimp only; (repeat' split) <;> rfl

/-- A fence without an address removes the entries of its kind and adds none. -/
theorem mem_tcFence_none {s : State} {p : TcEntry → Bool} {e : TcEntry} :
    e ∈ (tcFence s p none).tc ↔ e ∈ s.tc ∧ p e = false := by
  simp [tcFence]

/-- A fence with an address removes the entries of its kind used for it as leaves, and the others of its kind serve the
address no more as leaves. -/
theorem mem_tcFence_some {s : State} {p : TcEntry → Bool} {a : Nat} {e : TcEntry} :
    e ∈ (tcFence s p (some a)).tc ↔
      ∃ f ∈ s.tc, (p f && tcUsed a f) = false ∧ e = if p f then { f with fenced := a :: f.fenced } else f := by
  simp only [tcFence, List.mem_map, List.mem_filter, Bool.not_eq_true', and_assoc]
  exact exists_congr fun f => and_congr_right fun _ => and_congr_right fun _ => eq_comm

/-- After a fence that names an address of the page, no entry of its kind serves a walk of the page as a leaf. -/
theorem tcFenced_of_mem {w : Walk} {i a : Nat} {e : TcEntry} (ha : a ∈ e.fenced) (hl : pteMayBeLeaf e.pte = true)
    (hp : a / 2 ^ (12 + w.vpnBits * i) = w.addr / 2 ^ (12 + w.vpnBits * i)) : tcFenced w i e = true := by
  simp only [tcFenced, hl, Bool.true_and, List.any_eq_true, beq_iff_eq]
  exact ⟨a, ha, hp⟩

/-- Page-based memory types compose: both stages' overrides are one (22_translation R465). -/
theorem override_override (r : Region) (g v : Pbmt) : override (override r g) v = override r (pbmtOver g v) := by
  cases g <;> cases v <;> simp [override, pbmtOver]

end Sys2Proof.Machine
end

