-- ==== Sys2Proof/Laws/PerInstr.lean ====
section
/-! SUPPORT. Statements for all instructions, one lemma for each constructor of Instr. -/

namespace Sys2Proof.Laws.LowBits

/-- The two lowest bits of the instruction's word are 11, the length code of a 32-bit instruction (30_encoding R502). -/
def Statement (i : Instr) : Prop := (encode i).extractLsb' 0 2 = 3

/-- The low bits of a word are those of its opcode field. -/
theorem of_op (op : BitVec 7) {i : Instr} (h : (encodeRaw i).op = op) (k : op.extractLsb' 0 2 = 3) : Statement i := by
  have low (r : Raw) : (pack r).extractLsb' 0 2 = r.op.extractLsb' 0 2 := by
    refine BitVec.eq_of_getLsbD_eq fun n hn => ?_
    have e : (pack r).getLsbD n = if n < 7 then r.op.getLsbD n else _ := BitVec.getLsbD_append
    rw [BitVec.getLsbD_extractLsb', BitVec.getLsbD_extractLsb', Nat.zero_add, e, if_pos (by omega)]
  exact (low _).trans (h ▸ k)

theorem lui (rd : Reg) (imm : BitVec 20) : Statement (.lui rd imm) := of_op 0b0110111 rfl (by decide)
theorem auipc (rd : Reg) (imm : BitVec 20) : Statement (.auipc rd imm) := of_op 0b0010111 rfl (by decide)
theorem jal (rd : Reg) (imm : BitVec 20) : Statement (.jal rd imm) := of_op 0b1101111 rfl (by decide)
theorem jalr (rd rs1 : Reg) (imm : BitVec 12) : Statement (.jalr rd rs1 imm) := of_op 0b1100111 rfl (by decide)
theorem beq (rs1 rs2 : Reg) (imm : BitVec 12) : Statement (.beq rs1 rs2 imm) := of_op 0b1100011 rfl (by decide)
theorem bne (rs1 rs2 : Reg) (imm : BitVec 12) : Statement (.bne rs1 rs2 imm) := of_op 0b1100011 rfl (by decide)
theorem blt (rs1 rs2 : Reg) (imm : BitVec 12) : Statement (.blt rs1 rs2 imm) := of_op 0b1100011 rfl (by decide)
theorem bge (rs1 rs2 : Reg) (imm : BitVec 12) : Statement (.bge rs1 rs2 imm) := of_op 0b1100011 rfl (by decide)
theorem bltu (rs1 rs2 : Reg) (imm : BitVec 12) : Statement (.bltu rs1 rs2 imm) := of_op 0b1100011 rfl (by decide)
theorem bgeu (rs1 rs2 : Reg) (imm : BitVec 12) : Statement (.bgeu rs1 rs2 imm) := of_op 0b1100011 rfl (by decide)
theorem lb (rd rs1 : Reg) (imm : BitVec 12) : Statement (.lb rd rs1 imm) := of_op 0b0000011 rfl (by decide)
theorem lh (rd rs1 : Reg) (imm : BitVec 12) : Statement (.lh rd rs1 imm) := of_op 0b0000011 rfl (by decide)
theorem lw (rd rs1 : Reg) (imm : BitVec 12) : Statement (.lw rd rs1 imm) := of_op 0b0000011 rfl (by decide)
theorem lbu (rd rs1 : Reg) (imm : BitVec 12) : Statement (.lbu rd rs1 imm) := of_op 0b0000011 rfl (by decide)
theorem lhu (rd rs1 : Reg) (imm : BitVec 12) : Statement (.lhu rd rs1 imm) := of_op 0b0000011 rfl (by decide)
theorem ld (rd rs1 : Reg) (imm : BitVec 12) : Statement (.ld rd rs1 imm) := of_op 0b0000011 rfl (by decide)
theorem lwu (rd rs1 : Reg) (imm : BitVec 12) : Statement (.lwu rd rs1 imm) := of_op 0b0000011 rfl (by decide)
theorem sb (rs1 rs2 : Reg) (imm : BitVec 12) : Statement (.sb rs1 rs2 imm) := of_op 0b0100011 rfl (by decide)
theorem sh (rs1 rs2 : Reg) (imm : BitVec 12) : Statement (.sh rs1 rs2 imm) := of_op 0b0100011 rfl (by decide)
theorem sw (rs1 rs2 : Reg) (imm : BitVec 12) : Statement (.sw rs1 rs2 imm) := of_op 0b0100011 rfl (by decide)
theorem sd (rs1 rs2 : Reg) (imm : BitVec 12) : Statement (.sd rs1 rs2 imm) := of_op 0b0100011 rfl (by decide)
theorem addi (rd rs1 : Reg) (imm : BitVec 12) : Statement (.addi rd rs1 imm) := of_op 0b0010011 rfl (by decide)
theorem slti (rd rs1 : Reg) (imm : BitVec 12) : Statement (.slti rd rs1 imm) := of_op 0b0010011 rfl (by decide)
theorem sltiu (rd rs1 : Reg) (imm : BitVec 12) : Statement (.sltiu rd rs1 imm) := of_op 0b0010011 rfl (by decide)
theorem xori (rd rs1 : Reg) (imm : BitVec 12) : Statement (.xori rd rs1 imm) := of_op 0b0010011 rfl (by decide)
theorem ori (rd rs1 : Reg) (imm : BitVec 12) : Statement (.ori rd rs1 imm) := of_op 0b0010011 rfl (by decide)
theorem andi (rd rs1 : Reg) (imm : BitVec 12) : Statement (.andi rd rs1 imm) := of_op 0b0010011 rfl (by decide)
theorem slli (rd rs1 : Reg) (shamt : BitVec 6) : Statement (.slli rd rs1 shamt) := of_op 0b0010011 rfl (by decide)
theorem srli (rd rs1 : Reg) (shamt : BitVec 6) : Statement (.srli rd rs1 shamt) := of_op 0b0010011 rfl (by decide)
theorem srai (rd rs1 : Reg) (shamt : BitVec 6) : Statement (.srai rd rs1 shamt) := of_op 0b0010011 rfl (by decide)
theorem add (rd rs1 rs2 : Reg) : Statement (.add rd rs1 rs2) := of_op 0b0110011 rfl (by decide)
theorem sub (rd rs1 rs2 : Reg) : Statement (.sub rd rs1 rs2) := of_op 0b0110011 rfl (by decide)
theorem sll (rd rs1 rs2 : Reg) : Statement (.sll rd rs1 rs2) := of_op 0b0110011 rfl (by decide)
theorem slt (rd rs1 rs2 : Reg) : Statement (.slt rd rs1 rs2) := of_op 0b0110011 rfl (by decide)
theorem sltu (rd rs1 rs2 : Reg) : Statement (.sltu rd rs1 rs2) := of_op 0b0110011 rfl (by decide)
theorem xor (rd rs1 rs2 : Reg) : Statement (.xor rd rs1 rs2) := of_op 0b0110011 rfl (by decide)
theorem srl (rd rs1 rs2 : Reg) : Statement (.srl rd rs1 rs2) := of_op 0b0110011 rfl (by decide)
theorem sra (rd rs1 rs2 : Reg) : Statement (.sra rd rs1 rs2) := of_op 0b0110011 rfl (by decide)
theorem or (rd rs1 rs2 : Reg) : Statement (.or rd rs1 rs2) := of_op 0b0110011 rfl (by decide)
theorem and (rd rs1 rs2 : Reg) : Statement (.and rd rs1 rs2) := of_op 0b0110011 rfl (by decide)
theorem nop : Statement (.nop) := of_op 0b0010011 rfl (by decide)
theorem fence (fm pred succ : BitVec 4) (rs1 rd : Reg) : Statement (.fence fm pred succ rs1 rd) := of_op 0b0001111 rfl (by decide)
theorem fenceTso : Statement (.fenceTso) := of_op 0b0001111 rfl (by decide)
theorem pause : Statement (.pause) := of_op 0b0001111 rfl (by decide)
theorem fenceI (imm : BitVec 12) (rs1 rd : Reg) : Statement (.fenceI imm rs1 rd) := of_op 0b0001111 rfl (by decide)
theorem ecall : Statement (.ecall) := of_op 0b1110011 rfl (by decide)
theorem ebreak : Statement (.ebreak) := of_op 0b1110011 rfl (by decide)
theorem addiw (rd rs1 : Reg) (imm : BitVec 12) : Statement (.addiw rd rs1 imm) := of_op 0b0011011 rfl (by decide)
theorem slliw (rd rs1 : Reg) (shamt : BitVec 5) : Statement (.slliw rd rs1 shamt) := of_op 0b0011011 rfl (by decide)
theorem srliw (rd rs1 : Reg) (shamt : BitVec 5) : Statement (.srliw rd rs1 shamt) := of_op 0b0011011 rfl (by decide)
theorem sraiw (rd rs1 : Reg) (shamt : BitVec 5) : Statement (.sraiw rd rs1 shamt) := of_op 0b0011011 rfl (by decide)
theorem addw (rd rs1 rs2 : Reg) : Statement (.addw rd rs1 rs2) := of_op 0b0111011 rfl (by decide)
theorem subw (rd rs1 rs2 : Reg) : Statement (.subw rd rs1 rs2) := of_op 0b0111011 rfl (by decide)
theorem sllw (rd rs1 rs2 : Reg) : Statement (.sllw rd rs1 rs2) := of_op 0b0111011 rfl (by decide)
theorem srlw (rd rs1 rs2 : Reg) : Statement (.srlw rd rs1 rs2) := of_op 0b0111011 rfl (by decide)
theorem sraw (rd rs1 rs2 : Reg) : Statement (.sraw rd rs1 rs2) := of_op 0b0111011 rfl (by decide)
theorem ntlP1 : Statement (.ntlP1) := of_op 0b0110011 rfl (by decide)
theorem ntlPall : Statement (.ntlPall) := of_op 0b0110011 rfl (by decide)
theorem ntlS1 : Statement (.ntlS1) := of_op 0b0110011 rfl (by decide)
theorem ntlAll : Statement (.ntlAll) := of_op 0b0110011 rfl (by decide)
theorem csrrw (rd rs1 : Reg) (csr : BitVec 12) : Statement (.csrrw rd rs1 csr) := of_op 0b1110011 rfl (by decide)
theorem csrrs (rd rs1 : Reg) (csr : BitVec 12) : Statement (.csrrs rd rs1 csr) := of_op 0b1110011 rfl (by decide)
theorem csrrc (rd rs1 : Reg) (csr : BitVec 12) : Statement (.csrrc rd rs1 csr) := of_op 0b1110011 rfl (by decide)
theorem csrrwi (rd : Reg) (uimm : BitVec 5) (csr : BitVec 12) : Statement (.csrrwi rd uimm csr) := of_op 0b1110011 rfl (by decide)
theorem csrrsi (rd : Reg) (uimm : BitVec 5) (csr : BitVec 12) : Statement (.csrrsi rd uimm csr) := of_op 0b1110011 rfl (by decide)
theorem csrrci (rd : Reg) (uimm : BitVec 5) (csr : BitVec 12) : Statement (.csrrci rd uimm csr) := of_op 0b1110011 rfl (by decide)
theorem mul (rd rs1 rs2 : Reg) : Statement (.mul rd rs1 rs2) := of_op 0b0110011 rfl (by decide)
theorem mulh (rd rs1 rs2 : Reg) : Statement (.mulh rd rs1 rs2) := of_op 0b0110011 rfl (by decide)
theorem mulhsu (rd rs1 rs2 : Reg) : Statement (.mulhsu rd rs1 rs2) := of_op 0b0110011 rfl (by decide)
theorem mulhu (rd rs1 rs2 : Reg) : Statement (.mulhu rd rs1 rs2) := of_op 0b0110011 rfl (by decide)
theorem div (rd rs1 rs2 : Reg) : Statement (.div rd rs1 rs2) := of_op 0b0110011 rfl (by decide)
theorem divu (rd rs1 rs2 : Reg) : Statement (.divu rd rs1 rs2) := of_op 0b0110011 rfl (by decide)
theorem rem (rd rs1 rs2 : Reg) : Statement (.rem rd rs1 rs2) := of_op 0b0110011 rfl (by decide)
theorem remu (rd rs1 rs2 : Reg) : Statement (.remu rd rs1 rs2) := of_op 0b0110011 rfl (by decide)
theorem mulw (rd rs1 rs2 : Reg) : Statement (.mulw rd rs1 rs2) := of_op 0b0111011 rfl (by decide)
theorem divw (rd rs1 rs2 : Reg) : Statement (.divw rd rs1 rs2) := of_op 0b0111011 rfl (by decide)
theorem divuw (rd rs1 rs2 : Reg) : Statement (.divuw rd rs1 rs2) := of_op 0b0111011 rfl (by decide)
theorem remw (rd rs1 rs2 : Reg) : Statement (.remw rd rs1 rs2) := of_op 0b0111011 rfl (by decide)
theorem remuw (rd rs1 rs2 : Reg) : Statement (.remuw rd rs1 rs2) := of_op 0b0111011 rfl (by decide)
theorem lrW (aq rl : Bool) (rd rs1 : Reg) : Statement (.lrW aq rl rd rs1) := of_op 0b0101111 rfl (by decide)
theorem scW (aq rl : Bool) (rd rs1 rs2 : Reg) : Statement (.scW aq rl rd rs1 rs2) := of_op 0b0101111 rfl (by decide)
theorem amoswapW (aq rl : Bool) (rd rs1 rs2 : Reg) : Statement (.amoswapW aq rl rd rs1 rs2) := of_op 0b0101111 rfl (by decide)
theorem amoaddW (aq rl : Bool) (rd rs1 rs2 : Reg) : Statement (.amoaddW aq rl rd rs1 rs2) := of_op 0b0101111 rfl (by decide)
theorem amoxorW (aq rl : Bool) (rd rs1 rs2 : Reg) : Statement (.amoxorW aq rl rd rs1 rs2) := of_op 0b0101111 rfl (by decide)
theorem amoandW (aq rl : Bool) (rd rs1 rs2 : Reg) : Statement (.amoandW aq rl rd rs1 rs2) := of_op 0b0101111 rfl (by decide)
theorem amoorW (aq rl : Bool) (rd rs1 rs2 : Reg) : Statement (.amoorW aq rl rd rs1 rs2) := of_op 0b0101111 rfl (by decide)
theorem amominW (aq rl : Bool) (rd rs1 rs2 : Reg) : Statement (.amominW aq rl rd rs1 rs2) := of_op 0b0101111 rfl (by decide)
theorem amomaxW (aq rl : Bool) (rd rs1 rs2 : Reg) : Statement (.amomaxW aq rl rd rs1 rs2) := of_op 0b0101111 rfl (by decide)
theorem amominuW (aq rl : Bool) (rd rs1 rs2 : Reg) : Statement (.amominuW aq rl rd rs1 rs2) := of_op 0b0101111 rfl (by decide)
theorem amomaxuW (aq rl : Bool) (rd rs1 rs2 : Reg) : Statement (.amomaxuW aq rl rd rs1 rs2) := of_op 0b0101111 rfl (by decide)
theorem lrD (aq rl : Bool) (rd rs1 : Reg) : Statement (.lrD aq rl rd rs1) := of_op 0b0101111 rfl (by decide)
theorem scD (aq rl : Bool) (rd rs1 rs2 : Reg) : Statement (.scD aq rl rd rs1 rs2) := of_op 0b0101111 rfl (by decide)
theorem amoswapD (aq rl : Bool) (rd rs1 rs2 : Reg) : Statement (.amoswapD aq rl rd rs1 rs2) := of_op 0b0101111 rfl (by decide)
theorem amoaddD (aq rl : Bool) (rd rs1 rs2 : Reg) : Statement (.amoaddD aq rl rd rs1 rs2) := of_op 0b0101111 rfl (by decide)
theorem amoxorD (aq rl : Bool) (rd rs1 rs2 : Reg) : Statement (.amoxorD aq rl rd rs1 rs2) := of_op 0b0101111 rfl (by decide)
theorem amoandD (aq rl : Bool) (rd rs1 rs2 : Reg) : Statement (.amoandD aq rl rd rs1 rs2) := of_op 0b0101111 rfl (by decide)
theorem amoorD (aq rl : Bool) (rd rs1 rs2 : Reg) : Statement (.amoorD aq rl rd rs1 rs2) := of_op 0b0101111 rfl (by decide)
theorem amominD (aq rl : Bool) (rd rs1 rs2 : Reg) : Statement (.amominD aq rl rd rs1 rs2) := of_op 0b0101111 rfl (by decide)
theorem amomaxD (aq rl : Bool) (rd rs1 rs2 : Reg) : Statement (.amomaxD aq rl rd rs1 rs2) := of_op 0b0101111 rfl (by decide)
theorem amominuD (aq rl : Bool) (rd rs1 rs2 : Reg) : Statement (.amominuD aq rl rd rs1 rs2) := of_op 0b0101111 rfl (by decide)
theorem amomaxuD (aq rl : Bool) (rd rs1 rs2 : Reg) : Statement (.amomaxuD aq rl rd rs1 rs2) := of_op 0b0101111 rfl (by decide)
theorem sret : Statement (.sret) := of_op 0b1110011 rfl (by decide)
theorem mret : Statement (.mret) := of_op 0b1110011 rfl (by decide)
theorem wfi : Statement (.wfi) := of_op 0b1110011 rfl (by decide)
theorem sfenceVma (rs1 rs2 : Reg) : Statement (.sfenceVma rs1 rs2) := of_op 0b1110011 rfl (by decide)
theorem sinvalVma (rs1 rs2 : Reg) : Statement (.sinvalVma rs1 rs2) := of_op 0b1110011 rfl (by decide)
theorem sfenceWInval : Statement (.sfenceWInval) := of_op 0b1110011 rfl (by decide)
theorem sfenceInvalIr : Statement (.sfenceInvalIr) := of_op 0b1110011 rfl (by decide)
theorem hinvalVvma (rs1 rs2 : Reg) : Statement (.hinvalVvma rs1 rs2) := of_op 0b1110011 rfl (by decide)
theorem hinvalGvma (rs1 rs2 : Reg) : Statement (.hinvalGvma rs1 rs2) := of_op 0b1110011 rfl (by decide)
theorem hfenceVvma (rs1 rs2 : Reg) : Statement (.hfenceVvma rs1 rs2) := of_op 0b1110011 rfl (by decide)
theorem hfenceGvma (rs1 rs2 : Reg) : Statement (.hfenceGvma rs1 rs2) := of_op 0b1110011 rfl (by decide)
theorem hlvB (rd rs1 : Reg) : Statement (.hlvB rd rs1) := of_op 0b1110011 rfl (by decide)
theorem hlvBu (rd rs1 : Reg) : Statement (.hlvBu rd rs1) := of_op 0b1110011 rfl (by decide)
theorem hlvH (rd rs1 : Reg) : Statement (.hlvH rd rs1) := of_op 0b1110011 rfl (by decide)
theorem hlvHu (rd rs1 : Reg) : Statement (.hlvHu rd rs1) := of_op 0b1110011 rfl (by decide)
theorem hlvxHu (rd rs1 : Reg) : Statement (.hlvxHu rd rs1) := of_op 0b1110011 rfl (by decide)
theorem hlvW (rd rs1 : Reg) : Statement (.hlvW rd rs1) := of_op 0b1110011 rfl (by decide)
theorem hlvWu (rd rs1 : Reg) : Statement (.hlvWu rd rs1) := of_op 0b1110011 rfl (by decide)
theorem hlvxWu (rd rs1 : Reg) : Statement (.hlvxWu rd rs1) := of_op 0b1110011 rfl (by decide)
theorem hlvD (rd rs1 : Reg) : Statement (.hlvD rd rs1) := of_op 0b1110011 rfl (by decide)
theorem hsvB (rs1 rs2 : Reg) : Statement (.hsvB rs1 rs2) := of_op 0b1110011 rfl (by decide)
theorem hsvH (rs1 rs2 : Reg) : Statement (.hsvH rs1 rs2) := of_op 0b1110011 rfl (by decide)
theorem hsvW (rs1 rs2 : Reg) : Statement (.hsvW rs1 rs2) := of_op 0b1110011 rfl (by decide)
theorem hsvD (rs1 rs2 : Reg) : Statement (.hsvD rs1 rs2) := of_op 0b1110011 rfl (by decide)

end Sys2Proof.Laws.LowBits
end

