-- ==== Sys2Proof/Tests/Slice0.lean ====
section
/-! SUPPORT. Tests: ill-formed terms are refused, every constructor's word decodes, vectors of the spec, and for every
statement with hypotheses a witness that meets them. -/

namespace Sys2Proof.Tests

open Sys2Proof.Machine

set_option maxRecDepth 100000

/-! ### Well-formedness -/

theorem test_wf_refuses_nop_as_addi : (Instr.addi 0 0 0).wf = false ∧ (Instr.addi 0 0 1).wf = true := by decide

theorem test_wf_refuses_hints_as_add :
    (Instr.add 0 0 2).wf = false ∧ (Instr.add 0 0 3).wf = false ∧ (Instr.add 0 0 4).wf = false ∧
    (Instr.add 0 0 5).wf = false ∧ (Instr.add 0 0 1).wf = true ∧ (Instr.add 0 0 6).wf = true := by decide

theorem test_wf_refuses_tso_and_pause_as_fence :
    (Instr.fence 8 3 3 0 0).wf = false ∧ (Instr.fence 0 1 0 0 0).wf = false ∧ (Instr.fence 0 3 3 0 0).wf = true ∧
    (Instr.fence 8 3 3 1 0).wf = true := by decide

/-! ### Decoding: each word is the fields of spec/opcode_table.json written out (30_encoding R513), most significant first.
rd is 00011, rs1 01010, rs2 10100; the immediates have no symmetry. -/

/-- Every word decodes to the instruction beside it. -/
def reads (l : List (Nat × Instr)) : Bool := l.all fun p => decode (BitVec.ofNat 32 p.1) == some p.2

theorem test_decode_upper_immediates_and_jumps : reads [
    (0b10100101110000111110_00011_0110111, .lui 0b11 0xa5c3e),
    (0b10100101110000111110_00011_0010111, .auipc 0b11 0xa5c3e),
    (0b1_1000011111_1_10100101_00011_1101111, .jal 0b11 0xd2e1f),
    (0b101001011100_01010_000_00011_1100111, .jalr 0b11 0b1010 0xa5c)] = true := by decide

theorem test_decode_branches : reads [
    (0b1_010010_10100_01010_000_1110_1_1100011, .beq 0b1010 0b10100 0xd2e),
    (0b1_010010_10100_01010_001_1110_1_1100011, .bne 0b1010 0b10100 0xd2e),
    (0b1_010010_10100_01010_100_1110_1_1100011, .blt 0b1010 0b10100 0xd2e),
    (0b1_010010_10100_01010_101_1110_1_1100011, .bge 0b1010 0b10100 0xd2e),
    (0b1_010010_10100_01010_110_1110_1_1100011, .bltu 0b1010 0b10100 0xd2e),
    (0b1_010010_10100_01010_111_1110_1_1100011, .bgeu 0b1010 0b10100 0xd2e)] = true := by decide

theorem test_decode_loads : reads [
    (0b101001011100_01010_000_00011_0000011, .lb 0b11 0b1010 0xa5c),
    (0b101001011100_01010_001_00011_0000011, .lh 0b11 0b1010 0xa5c),
    (0b101001011100_01010_010_00011_0000011, .lw 0b11 0b1010 0xa5c),
    (0b101001011100_01010_100_00011_0000011, .lbu 0b11 0b1010 0xa5c),
    (0b101001011100_01010_101_00011_0000011, .lhu 0b11 0b1010 0xa5c),
    (0b101001011100_01010_011_00011_0000011, .ld 0b11 0b1010 0xa5c),
    (0b101001011100_01010_110_00011_0000011, .lwu 0b11 0b1010 0xa5c)] = true := by decide

theorem test_decode_stores : reads [
    (0b1010010_10100_01010_000_11100_0100011, .sb 0b1010 0b10100 0xa5c),
    (0b1010010_10100_01010_001_11100_0100011, .sh 0b1010 0b10100 0xa5c),
    (0b1010010_10100_01010_010_11100_0100011, .sw 0b1010 0b10100 0xa5c),
    (0b1010010_10100_01010_011_11100_0100011, .sd 0b1010 0b10100 0xa5c)] = true := by decide

theorem test_decode_immediate_instructions : reads [
    (0b101001011100_01010_000_00011_0010011, .addi 0b11 0b1010 0xa5c),
    (0b101001011100_01010_010_00011_0010011, .slti 0b11 0b1010 0xa5c),
    (0b101001011100_01010_011_00011_0010011, .sltiu 0b11 0b1010 0xa5c),
    (0b101001011100_01010_100_00011_0010011, .xori 0b11 0b1010 0xa5c),
    (0b101001011100_01010_110_00011_0010011, .ori 0b11 0b1010 0xa5c),
    (0b101001011100_01010_111_00011_0010011, .andi 0b11 0b1010 0xa5c),
    (0b000000_101101_01010_001_00011_0010011, .slli 0b11 0b1010 0b101101),
    (0b000000_101101_01010_101_00011_0010011, .srli 0b11 0b1010 0b101101),
    (0b010000_101101_01010_101_00011_0010011, .srai 0b11 0b1010 0b101101)] = true := by decide

theorem test_decode_register_instructions : reads [
    (0b0000000_10100_01010_000_00011_0110011, .add 0b11 0b1010 0b10100),
    (0b0100000_10100_01010_000_00011_0110011, .sub 0b11 0b1010 0b10100),
    (0b0000000_10100_01010_001_00011_0110011, .sll 0b11 0b1010 0b10100),
    (0b0000000_10100_01010_010_00011_0110011, .slt 0b11 0b1010 0b10100),
    (0b0000000_10100_01010_011_00011_0110011, .sltu 0b11 0b1010 0b10100),
    (0b0000000_10100_01010_100_00011_0110011, .xor 0b11 0b1010 0b10100),
    (0b0000000_10100_01010_101_00011_0110011, .srl 0b11 0b1010 0b10100),
    (0b0100000_10100_01010_101_00011_0110011, .sra 0b11 0b1010 0b10100),
    (0b0000000_10100_01010_110_00011_0110011, .or 0b11 0b1010 0b10100),
    (0b0000000_10100_01010_111_00011_0110011, .and 0b11 0b1010 0b10100)] = true := by decide

theorem test_decode_nop_fences_and_calls : reads [
    (0b0000000_00000_00000_000_00000_0010011, .nop),
    (0b0101_1_0_1_0_0_1_1_0_01010_000_00011_0001111, .fence 0b101 0b1010 0b110 0b1010 0b11),
    (0b1000001_10011_00000_000_00000_0001111, .fenceTso),
    (0b0000000_10000_00000_000_00000_0001111, .pause),
    (0b101001011100_01010_001_00011_0001111, .fenceI 0xa5c 0b1010 0b11),
    (0b0000000_00000_00000_000_00000_1110011, .ecall),
    (0b0000000_00001_00000_000_00000_1110011, .ebreak)] = true := by decide

theorem test_decode_word_instructions : reads [
    (0b101001011100_01010_000_00011_0011011, .addiw 0b11 0b1010 0xa5c),
    (0b0000000_10110_01010_001_00011_0011011, .slliw 0b11 0b1010 0b10110),
    (0b0000000_10110_01010_101_00011_0011011, .srliw 0b11 0b1010 0b10110),
    (0b0100000_10110_01010_101_00011_0011011, .sraiw 0b11 0b1010 0b10110),
    (0b0000000_10100_01010_000_00011_0111011, .addw 0b11 0b1010 0b10100),
    (0b0100000_10100_01010_000_00011_0111011, .subw 0b11 0b1010 0b10100),
    (0b0000000_10100_01010_001_00011_0111011, .sllw 0b11 0b1010 0b10100),
    (0b0000000_10100_01010_101_00011_0111011, .srlw 0b11 0b1010 0b10100),
    (0b0100000_10100_01010_101_00011_0111011, .sraw 0b11 0b1010 0b10100)] = true := by decide

theorem test_decode_hints : reads [
    (0b0000000_00010_00000_000_00000_0110011, .ntlP1),
    (0b0000000_00011_00000_000_00000_0110011, .ntlPall),
    (0b0000000_00100_00000_000_00000_0110011, .ntlS1),
    (0b0000000_00101_00000_000_00000_0110011, .ntlAll)] = true := by decide

theorem test_decode_csr_instructions : reads [
    (0b010110100101_01010_001_00011_1110011, .csrrw 0b11 0b1010 0x5a5),
    (0b010110100101_01010_010_00011_1110011, .csrrs 0b11 0b1010 0x5a5),
    (0b010110100101_01010_011_00011_1110011, .csrrc 0b11 0b1010 0x5a5),
    (0b010110100101_11001_101_00011_1110011, .csrrwi 0b11 0b11001 0x5a5),
    (0b010110100101_11001_110_00011_1110011, .csrrsi 0b11 0b11001 0x5a5),
    (0b010110100101_11001_111_00011_1110011, .csrrci 0b11 0b11001 0x5a5)] = true := by decide

theorem test_decode_multiplication_and_division : reads [
    (0b0000001_10100_01010_000_00011_0110011, .mul 0b11 0b1010 0b10100),
    (0b0000001_10100_01010_001_00011_0110011, .mulh 0b11 0b1010 0b10100),
    (0b0000001_10100_01010_010_00011_0110011, .mulhsu 0b11 0b1010 0b10100),
    (0b0000001_10100_01010_011_00011_0110011, .mulhu 0b11 0b1010 0b10100),
    (0b0000001_10100_01010_100_00011_0110011, .div 0b11 0b1010 0b10100),
    (0b0000001_10100_01010_101_00011_0110011, .divu 0b11 0b1010 0b10100),
    (0b0000001_10100_01010_110_00011_0110011, .rem 0b11 0b1010 0b10100),
    (0b0000001_10100_01010_111_00011_0110011, .remu 0b11 0b1010 0b10100),
    (0b0000001_10100_01010_000_00011_0111011, .mulw 0b11 0b1010 0b10100),
    (0b0000001_10100_01010_100_00011_0111011, .divw 0b11 0b1010 0b10100),
    (0b0000001_10100_01010_101_00011_0111011, .divuw 0b11 0b1010 0b10100),
    (0b0000001_10100_01010_110_00011_0111011, .remw 0b11 0b1010 0b10100),
    (0b0000001_10100_01010_111_00011_0111011, .remuw 0b11 0b1010 0b10100)] = true := by decide

theorem test_decode_atomics_on_words : reads [
    (0b00010_1_0_00000_01010_010_00011_0101111, .lrW true false 0b11 0b1010),
    (0b00011_1_0_10100_01010_010_00011_0101111, .scW true false 0b11 0b1010 0b10100),
    (0b00001_1_0_10100_01010_010_00011_0101111, .amoswapW true false 0b11 0b1010 0b10100),
    (0b00000_1_0_10100_01010_010_00011_0101111, .amoaddW true false 0b11 0b1010 0b10100),
    (0b00100_1_0_10100_01010_010_00011_0101111, .amoxorW true false 0b11 0b1010 0b10100),
    (0b01100_1_0_10100_01010_010_00011_0101111, .amoandW true false 0b11 0b1010 0b10100),
    (0b01000_1_0_10100_01010_010_00011_0101111, .amoorW true false 0b11 0b1010 0b10100),
    (0b10000_1_0_10100_01010_010_00011_0101111, .amominW true false 0b11 0b1010 0b10100),
    (0b10100_1_0_10100_01010_010_00011_0101111, .amomaxW true false 0b11 0b1010 0b10100),
    (0b11000_1_0_10100_01010_010_00011_0101111, .amominuW true false 0b11 0b1010 0b10100),
    (0b11100_1_0_10100_01010_010_00011_0101111, .amomaxuW true false 0b11 0b1010 0b10100)] = true := by decide

theorem test_decode_atomics_on_doublewords : reads [
    (0b00010_1_0_00000_01010_011_00011_0101111, .lrD true false 0b11 0b1010),
    (0b00011_1_0_10100_01010_011_00011_0101111, .scD true false 0b11 0b1010 0b10100),
    (0b00001_1_0_10100_01010_011_00011_0101111, .amoswapD true false 0b11 0b1010 0b10100),
    (0b00000_1_0_10100_01010_011_00011_0101111, .amoaddD true false 0b11 0b1010 0b10100),
    (0b00100_1_0_10100_01010_011_00011_0101111, .amoxorD true false 0b11 0b1010 0b10100),
    (0b01100_1_0_10100_01010_011_00011_0101111, .amoandD true false 0b11 0b1010 0b10100),
    (0b01000_1_0_10100_01010_011_00011_0101111, .amoorD true false 0b11 0b1010 0b10100),
    (0b10000_1_0_10100_01010_011_00011_0101111, .amominD true false 0b11 0b1010 0b10100),
    (0b10100_1_0_10100_01010_011_00011_0101111, .amomaxD true false 0b11 0b1010 0b10100),
    (0b11000_1_0_10100_01010_011_00011_0101111, .amominuD true false 0b11 0b1010 0b10100),
    (0b11100_1_0_10100_01010_011_00011_0101111, .amomaxuD true false 0b11 0b1010 0b10100)] = true := by decide

theorem test_decode_privileged_and_invalidation : reads [
    (0b0001000_00010_00000_000_00000_1110011, .sret),
    (0b0011000_00010_00000_000_00000_1110011, .mret),
    (0b0001000_00101_00000_000_00000_1110011, .wfi),
    (0b0001001_10100_01010_000_00000_1110011, .sfenceVma 0b1010 0b10100),
    (0b0001011_10100_01010_000_00000_1110011, .sinvalVma 0b1010 0b10100),
    (0b0001100_00000_00000_000_00000_1110011, .sfenceWInval),
    (0b0001100_00001_00000_000_00000_1110011, .sfenceInvalIr),
    (0b0010011_10100_01010_000_00000_1110011, .hinvalVvma 0b1010 0b10100),
    (0b0110011_10100_01010_000_00000_1110011, .hinvalGvma 0b1010 0b10100)] = true := by decide

theorem test_decode_hypervisor_instructions : reads [
    (0b0010001_10100_01010_000_00000_1110011, .hfenceVvma 0b1010 0b10100),
    (0b0110001_10100_01010_000_00000_1110011, .hfenceGvma 0b1010 0b10100),
    (0b011000000000_01010_100_00011_1110011, .hlvB 0b11 0b1010),
    (0b011000000001_01010_100_00011_1110011, .hlvBu 0b11 0b1010),
    (0b011001000000_01010_100_00011_1110011, .hlvH 0b11 0b1010),
    (0b011001000001_01010_100_00011_1110011, .hlvHu 0b11 0b1010),
    (0b011001000011_01010_100_00011_1110011, .hlvxHu 0b11 0b1010),
    (0b011010000000_01010_100_00011_1110011, .hlvW 0b11 0b1010),
    (0b011010000001_01010_100_00011_1110011, .hlvWu 0b11 0b1010),
    (0b011010000011_01010_100_00011_1110011, .hlvxWu 0b11 0b1010),
    (0b011011000000_01010_100_00011_1110011, .hlvD 0b11 0b1010),
    (0b0110001_10100_01010_100_00000_1110011, .hsvB 0b1010 0b10100),
    (0b0110011_10100_01010_100_00000_1110011, .hsvH 0b1010 0b10100),
    (0b0110101_10100_01010_100_00000_1110011, .hsvW 0b1010 0b10100),
    (0b0110111_10100_01010_100_00000_1110011, .hsvD 0b1010 0b10100)] = true := by decide

/-- Words that no row matches: zeros, ones, a 16-bit length code, LR with rs2, MRET with rd, a LOAD, an OP and a SYSTEM
funct no row has, FLW's opcode. -/
theorem test_decode_refuses :
    ([0x00000000, 0xFFFFFFFF, 0x00000001, 0b00010_0_0_00001_01010_010_00011_0101111, 0b0011000_00010_00000_000_00001_1110011,
      0b000000000000_01010_111_00011_0000011, 0b0000010_10100_01010_000_00011_0110011, 0b0111111_00000_00000_000_00000_1110011,
      0b000000000000_01010_010_00011_0000111].all fun w => decode (BitVec.ofNat 32 w) == none) = true := by decide

theorem test_table_word : decodeTableWord 32 0xFFF00093 = some (.addi 1 0 0xFFF) ∧ decodeTableWord 8 0x13 = some .nop := by
  decide

/-! ### Small states -/

/-- Reset, with registers set and trap handlers at 0x80000400 and 0x80000800 (the preamble of 96_test_vectors_exec). -/
def small (c : Config) (regs : List (Nat × Nat)) : State :=
  let s := State.resetIn c
  let t := { s with m := { s.m with mtvec := 0x80000400 }, sv := { s.sv with stvec := 0x80000800 } }
  regs.foldl (fun u p => wX u (BitVec.ofNat 5 p.1) (BitVec.ofNat 64 p.2)) t

def s64 (regs : List (Nat × Nat)) : State := small Config.reference regs

def s32 (regs : List (Nat × Nat)) : State := small Config.reference32 regs

/-- n bytes of memory set, little-endian. -/
def withMem (s : State) (a n v : Nat) : State := { s with mem := Memory.writeBytes s.mem a (bytesOf n (BitVec.ofNat 64 v)) }

/-- One instruction, as the next step runs it. -/
def go (s : State) (w : Nat) : Option State :=
  match step (s.withFetchWord 32 w) with
  | .next t => some t
  | _ => none

/-- A register after it. -/
def reg (s : State) (w : Nat) (r : Reg) : Option Nat := (go s w).map fun t => (rX t r).toNat

/-- mcause, mtval and pc after it. -/
def trapped (s : State) (w : Nat) : Option (Nat × Nat × Nat) :=
  (go s w).map fun t => (t.m.mcause.toNat, t.m.mtval.toNat, t.pc.toNat)

/-- Memory's bytes after it. -/
def bytes (s : State) (w a n : Nat) : Option (List Byte) := (go s w).map fun t => Memory.readBytes t.mem a n

/-! ### Vectors of 96_test_vectors_exec: the instruction, its word, and the state after it -/

/-- `addi x1, x0, -1` (R554). -/
theorem test_addi_sign_extends : reg (s64 []) 0xFFF00093 1 = some 0xFFFFFFFFFFFFFFFF := by decide

/-- `sltiu x2, x1, -1` at XLEN = 32 (R556). -/
theorem test_sltiu_compares_unsigned : reg (s32 [(1, 5)]) 0xFFF0B113 2 = some 1 := by decide

/-- `slli x2, x1, 32` at XLEN = 32 (R560): illegal. -/
theorem test_slli_rv32_bit_25 : trapped (s32 [(1, 3)]) 0x02009113 = some (2, 0x02009113, 0x80000400) := by decide

/-- `lui x5, 0xFFFFF` at XLEN = 32 (R552). -/
theorem test_lui : reg (s32 []) 0xFFFFF2B7 5 = some 0xFFFFF000 := by decide

/-- `add x1, x1, x1` (R563): operands are read before the write. -/
theorem test_add_in_place : reg (s32 [(1, 0x40000001)]) 0x001080B3 1 = some 0x80000002 := by decide

/-- `slt x3, x1, x2` (R566). -/
theorem test_slt_signed : reg (s32 [(1, 0xFFFFFFFF), (2, 1)]) 0x0020A1B3 3 = some 1 := by decide

/-- `srl x3, x1, x2` (R569): only rs2[4:0] counts at XLEN = 32. -/
theorem test_srl_masks_the_amount : reg (s32 [(1, 0x80000000), (2, 0xFFFFFFFF)]) 0x0020D1B3 3 = some 1 := by decide

/-- `srliw x2, x1, 0` (R624): a shift by 0 still sign-extends. -/
theorem test_srliw_by_zero : reg (s64 [(1, 0x80000000)]) 0x0000D11B 2 = some 0xFFFFFFFF80000000 := by decide

/-- `addiw x2, x1, 1` (R622). -/
theorem test_addiw_wraps : reg (s64 [(1, 0x7FFFFFFF)]) 0x0010811B 2 = some 0xFFFFFFFF80000000 := by decide

/-- `jalr x1, 5(x2)` (R577): bit 0 of the target is cleared. -/
theorem test_jalr_clears_bit_0 : (go (s32 [(2, 0x80000100)]) 0x005100E7).map (fun t => (t.pc, rX t 1)) =
    some (0x80000104, 0x80000004) := by decide

/-- `jalr x1, 3(x2)` (R577, R580). -/
theorem test_jalr_misaligned : trapped (s32 [(2, 0x80000100)]) 0x003100E7 = some (0, 0x80000102, 0x80000400) := by decide

/-- `blt x1, x2, 0x80000020` (R581): -1 < 0. -/
theorem test_blt_taken : (go (s32 [(1, 0xFFFFFFFF)]) 0x0220C063).map (·.pc) = some 0x80000020 := by decide

/-- `bne x0, x0, 0x80000006` (R580): not taken, so no exception. -/
theorem test_bne_not_taken : (go (s32 []) 0x00001363).map (·.pc) = some 0x80000004 := by decide

/-- `lb x3, 1(x1)` (R591). -/
theorem test_lb_sign_extends : reg (withMem (s32 [(1, 0x80001000)]) 0x80001000 4 0x11228044) 0x00108183 3 =
    some 0xFFFFFF80 := by decide

/-- `lwu x3, 0(x1)` (R632). -/
theorem test_lwu_zero_extends : reg (withMem (s64 [(1, 0x80001000)]) 0x80001000 4 0xFFFFFFFF) 0x0000E183 3 =
    some 0xFFFFFFFF := by decide

/-- `sd x2, -8(x1)` (R633). -/
theorem test_sd_little_endian : bytes (s64 [(1, 0x80001008), (2, 0x0102030405060708)]) 0xFE20BC23 0x80001000 8 =
    some [8, 7, 6, 5, 4, 3, 2, 1] := by decide

/-- `lw x3, 2(x1)` (R600). -/
theorem test_lw_misaligned : trapped (s32 [(1, 0x80001000)]) 0x0020A183 = some (4, 0x80001002, 0x80000400) := by decide

/-- `sw x3, 0(x1)` to a vacant address. -/
theorem test_sw_vacant : trapped (s32 [(1, 0x1000)]) 0x0030A023 = some (7, 0x1000, 0x80000400) := by decide

/-- `mulhsu x3, x1, x2` (R684). -/
theorem test_mulhsu : reg (s32 [(1, 0xFFFFFFFF), (2, 0xFFFFFFFF)]) 0x0220A1B3 3 = some 0xFFFFFFFF := by decide

/-- `div x3, x1, x2` (R688): overflow. -/
theorem test_div_overflow : reg (s64 [(1, 0x8000000000000000), (2, 0xFFFFFFFFFFFFFFFF)]) 0x0220C1B3 3 =
    some 0x8000000000000000 := by decide

/-- `div x3, x1, x2` (R689): toward zero. -/
theorem test_div_rounds : reg (s32 [(1, 0xFFFFFFF9), (2, 2)]) 0x0220C1B3 3 = some 0xFFFFFFFD := by decide

/-- `remuw x3, x1, x2` (R696, R688): by zero. -/
theorem test_remuw_by_zero : reg (s64 [(1, 0xFFFFFFFF80000001)]) 0x0220F1BB 3 = some 0xFFFFFFFF80000001 := by decide

/-- `csrrw x3, mhartid, x0` (R676): a write of a read-only CSR. -/
theorem test_csrrw_read_only : trapped (s32 []) 0xF14011F3 = some (2, 0xF14011F3, 0x80000400) := by decide

/-- `csrrw x0, mtvec, x1` (11_csr_machine R127): a reserved MODE leaves MODE. -/
theorem test_mtvec_reserved_mode :
    let s := s32 [(1, 0x80000203)]
    (go { s with m := { s.m with mtvec := 0x80000001 } } 0x30509073).map (·.m.mtvec) = some 0x80000201 := by decide

/-- `csrrs x3, misa, x0` (11_csr_machine R102, with H). -/
theorem test_misa : reg (s64 []) 0x301021F3 3 = some 0x8000000000141181 := by decide

/-- `lr.w x3, (x1)` (R703). -/
theorem test_lr_w : (go (withMem (s64 [(1, 0x80001000)]) 0x80001000 4 0x80000001) 0x1000A1AF).map
    (fun t => (rX t 3, t.resv.map (·.block))) = some (0xFFFFFFFF80000001, some 0x2000040) := by decide

/-- `sc.w x3, x2, (x1)` (R708): outside the reservation set. -/
theorem test_sc_w_fails :
    let s := s32 [(1, 0x80001040), (2, 0xDEADBEEF)]
    (go { s with resv := some { block := 0x2000040, addr := 0x80001000, ea := 0x80001000, size := 4 } } 0x1820A1AF).map
      (fun t => (rX t 3, t.resv, Memory.readBytes t.mem 0x80001040 4)) = some (1, none, [0, 0, 0, 0]) := by decide

/-- `amoadd.w x2, x2, (x1)` (R716): rd = rs2. -/
theorem test_amoadd_w : (go (withMem (s32 [(1, 0x80001000), (2, 5)]) 0x80001000 4 10) 0x0020A12F).map
    (fun t => (rX t 2, Memory.readBytes t.mem 0x80001000 4)) = some (10, [15, 0, 0, 0]) := by decide

/-- `amominu.d x3, x2, (x1)` (R733). -/
theorem test_amominu_d :
    bytes (withMem (s64 [(1, 0x80001000), (2, 0x7FFFFFFFFFFFFFFF)]) 0x80001000 8 0x8000000000000000) 0xC020B1AF 0x80001000 8 =
      some [0xFF, 0xFF, 0xFF, 0xFF, 0xFF, 0xFF, 0xFF, 0x7F] := by decide

/-- `fence rw, rw` with reserved fields set (R606): x5 is not written. -/
theorem test_fence_ignores_rd : reg (s32 [(5, 7)]) 0x0331028F 5 = some 7 := by decide

/-! ### Vectors of 97_test_vectors_system -/

/-- The transformed instructions of its table (61_hypervisor_traps R911), of a load, a store, an AMO, an LR, an HLV and an
HSV. -/
theorem test_transform :
    transform 0x0085A503 0 = 0x00002503 ∧ transform 0x00A5A423 0 = 0x00A02023 ∧ transform 0x00C5A52F 0 = 0x00C0252F ∧
    transform 0x140532AF 0 = 0x140032AF ∧ transform 0x6805C573 0 = 0x68004573 ∧ transform 0x6EC5C073 0 = 0x6EC04073 := by
  decide

/-- Of an Sv39 tree with a leaf for 0x402000: `mem64` as in the table. -/
def sv39 (leaf : Nat) : State :=
  let s := withMem (withMem (withMem (s64 []) 0x80000000 8 0x20000401) 0x80001010 8 0x20000801) 0x80002010 8 leaf
  { s with priv := .S, sv := { s.sv with satp := 0x8000000000080000 },
           pmp := { cfg := s.pmp.cfg.set 0 0x1F, addr := s.pmp.addr.set 0 0x3FFFFFFFFFFFFF } }

/-- The translated address, or the exception's cause. -/
def translated (s : State) (acc : Acc) (va : Word) : Option (Nat ⊕ Nat) :=
  match translate s { acc := acc, priv := s.priv, virt := s.virt, va := va, ea := va, spec := false, setA := true, setAVs := true } with
  | .ok m _ => some (.inl m.pa)
  | .trap e _ => some (.inr e.cause)

/-- A three-level walk; a store to a page that is not dirty; a load whose address is not canonical (R448, R446, R450). -/
theorem test_sv39 :
    translated (sv39 0x200000CF) .load 0x402ABC = some (.inl 0x80000ABC) ∧
    translated (sv39 0x2000004F) .store 0x402ABC = some (.inr 15) ∧
    translated (sv39 0x200000CF) .load 0x4000000000 = some (.inr 13) := by decide

/-- The NAPOT region of pmpaddr 0x20000FFF and the TOR region of 0x20000000, 0x20000400 (21_pmp R422). -/
theorem test_pmp_regions :
    let p (a : BitVec 8) (lo hi : Word) : Pmp :=
      { cfg := (Vector.replicate 64 0).set 1 a, addr := ((Vector.replicate 64 0).set 0 lo).set 1 hi }
    pmpRange Config.reference (p 0x18 0 0x20000FFF) 1 = (0x80000000, 0x80008000) ∧
    pmpRange Config.reference (p 0x08 0x20000000 0x20000400) 1 = (0x80000000, 0x80001000) := by decide

/-- `ecall` from VU-mode, not delegated (46_privileged R740, 60_exceptions R860). -/
theorem test_ecall_from_vu :
    (match exec .ecall { s64 [] with priv := .U, virt := true } with
      | .next t => some (t.m.mcause, t.m.mepc, t.pc, t.priv, t.virt, mstatusBit t MPV)
      | _ => none) = some (8, 0x80000000, 0x80000400, .M, false, true) := by decide

/-! ### Witnesses: for each statement with hypotheses, states and operands that meet them, at the ends of their ranges -/

/-- The instructions run in this state's configuration. -/
def avail (s : State) (l : List Instr) : Bool := l.all (·.available s.cfg)

theorem witness_ImmediateInstructions :
    avail (s64 []) [.addi 1 2 0x800, .slti 1 2 0xFFF, .sltiu 0 31 0x7FF, .lui 31 0x80000, .auipc 1 0xFFFFF, .xori 1 1 0xFFF,
      .ori 1 2 0, .andi 1 2 0x800, .slli 1 2 63, .srli 1 2 63, .srai 1 2 0] = true ∧
    avail (s32 []) [.slli 1 2 31, .srli 1 2 31, .srai 1 2 31] = true := by decide

theorem witness_RegisterInstructions :
    avail (s64 []) [.add 1 2 3, .sub 0 31 31, .slt 1 1 1, .sltu 1 0 2, .xor 1 2 3, .or 1 2 3, .and 1 2 3, .sll 1 2 3,
      .srl 1 2 3, .sra 1 2 3] = true ∧ avail (s32 []) [.add 1 2 3] = true := by decide

theorem witness_WordInstructions :
    avail (s64 []) [.addiw 1 2 0x800, .addw 1 2 3, .subw 1 2 3, .slliw 1 2 31, .srliw 1 2 0, .sraiw 1 2 31, .sllw 1 2 3,
      .srlw 1 2 3, .sraw 1 2 3] = true := by decide

theorem witness_Multiplication :
    avail (s64 []) [.mul 1 2 3, .mulh 1 2 3, .mulhsu 1 2 3, .mulhu 1 2 3, .mulw 1 2 3] = true := by decide

theorem witness_DivisionInstructions :
    avail (s32 []) [.div 1 2 3, .divu 1 2 3, .rem 1 2 3, .remu 1 2 3] = true ∧
    avail (s64 []) [.div 0 31 31, .remu 31 0 0, .divw 1 2 3, .divuw 1 2 3, .remw 1 2 3, .remuw 1 2 3] = true := by decide

/-- Division by zero, of a whole register and of a low word only; the overflows at both widths. -/
theorem witness_DivisionCorners :
    avail (s64 []) [.div 1 2 3, .divu 1 2 3, .rem 1 2 3, .remu 1 2 3, .divw 1 2 3, .divuw 1 2 3, .remw 1 2 3, .remuw 1 2 3] =
      true ∧
    uReg (s64 [(2, 7)]) 3 = 0 ∧ uReg32 (s64 [(3, 0x100000000)]) 3 = 0 ∧
    (let s := s64 [(2, 0x8000000000000000), (3, 0xFFFFFFFFFFFFFFFF)]
     sReg s 2 = -2 ^ (s.cfg.xlen - 1) ∧ sReg s 3 = -1) ∧
    (let s := s32 [(2, 0x80000000), (3, 0xFFFFFFFF)]
     sReg s 2 = -2 ^ (s.cfg.xlen - 1) ∧ sReg s 3 = -1) ∧
    (let s := s64 [(2, 0x180000000), (3, 0xFFFFFFFF)]
     sReg32 s 2 = -2 ^ 31 ∧ sReg32 s 3 = -1) := by decide

/-- Aligned and misaligned targets, the offsets at the ends of their range; each condition true and false. -/
theorem witness_JumpsAndBranches :
    (let s := s64 []
     let jal (off : BitVec 20) := (ofXlen s.cfg (s.pc.toNat + 2 * off.toInt)).toNat % 4
     let jalr (imm : BitVec 12) := (ofXlen s.cfg ((uReg s 2 + imm.toInt) / 2 * 2)).toNat % 4
     avail s [.jal 1 0x80000, .jalr 1 2 0x800] = true ∧ jal 0x80000 = 0 ∧ jal 0x7FFFF ≠ 0 ∧ jalr 0x801 = 0 ∧ jalr 0x7FF ≠ 0) ∧
    (let s := s64 [(1, 0x8000000000000000), (2, 1)]
     let target (off : BitVec 12) := (ofXlen s.cfg (s.pc.toNat + 2 * off.toInt)).toNat % 4
     avail s [.beq 1 2 0, .bne 1 2 0, .blt 1 2 0, .bge 1 2 0, .bltu 1 2 0, .bgeu 1 2 0] = true ∧
     rX s 1 ≠ rX s 2 ∧ rX s 1 = rX s 1 ∧ sReg s 1 < sReg s 2 ∧ ¬ sReg s 2 < sReg s 1 ∧ sReg s 1 ≤ sReg s 1 ∧
     ¬ sReg s 2 ≤ sReg s 1 ∧ uReg s 2 < uReg s 1 ∧ ¬ uReg s 1 < uReg s 2 ∧ uReg s 2 ≤ uReg s 1 ∧ ¬ uReg s 1 ≤ uReg s 2 ∧
     target 0x800 = 0 ∧ target 0x7FF ≠ 0) := by decide

/-- What `Reachable` says of a state after reset. -/
theorem reachable_after_reset (u : PmaUse) (ea n : Nat) (regs : List (Nat × Nat))
    (h : (decide ((s64 regs).priv = .M) && decide ((s64 regs).virt = false) && !mstatusBit (s64 regs) MPRV &&
      decide (ea % n = 0) && pmaAllows (s64 regs).cfg .pma ea n n u && !isIo (s64 regs).cfg ea n &&
      pmpCheck (s64 regs).cfg (s64 regs).pmp ea n (useAcc u) .M && (s64 regs).pmpStale.isEmpty) = true) :
    Reachable (s64 regs) u ea n := by
  simp only [Bool.and_eq_true, decide_eq_true_eq, Bool.not_eq_true', List.isEmpty_iff] at h
  obtain ⟨⟨⟨⟨⟨⟨⟨h1, h2⟩, h3⟩, h4⟩, h5⟩, h6⟩, h7⟩, h8⟩ := h
  exact ⟨h1, h2, h3, h4, h5, h6, h7, h8⟩

/-- The first and the last bytes of RAM, at every width. -/
theorem witness_LoadsComplete :
    let s := s64 [(2, 0x80000000), (3, 0x80010000)]
    avail s [.lb 1 2 0, .lh 1 2 0, .lw 1 2 0, .lbu 0 2 0, .lhu 1 2 0, .ld 2 2 0, .lwu 1 2 0] = true ∧
    Reachable s .load (effAddr s 2 0).toNat 8 ∧ Reachable s .load (effAddr s 3 0xFFF).toNat 1 ∧
    Reachable s .load (effAddr s 3 0xFFE).toNat 2 ∧ Reachable s .load (effAddr s 3 0xFFC).toNat 4 ∧
    Reachable s .load (effAddr s 3 0xFF8).toNat 8 :=
  ⟨by decide, reachable_after_reset _ _ _ _ (by decide), reachable_after_reset _ _ _ _ (by decide),
    reachable_after_reset _ _ _ _ (by decide), reachable_after_reset _ _ _ _ (by decide),
    reachable_after_reset _ _ _ _ (by decide)⟩

theorem witness_StoresComplete :
    let s := s64 [(2, 0x80000000), (3, 0x80010000)]
    avail s [.sb 2 3 0, .sh 2 3 0, .sw 2 3 0, .sd 2 2 0] = true ∧ Memory.wf s.mem = true ∧
    Reachable s .store (effAddr s 2 0).toNat 8 ∧ Reachable s .store (effAddr s 3 0xFFF).toNat 1 ∧
    Reachable s .store (effAddr s 3 0xFFE).toNat 2 ∧ Reachable s .store (effAddr s 3 0xFFC).toNat 4 ∧
    Reachable s .store (effAddr s 3 0xFF8).toNat 8 :=
  ⟨by decide, by decide, reachable_after_reset _ _ _ _ (by decide), reachable_after_reset _ _ _ _ (by decide),
    reachable_after_reset _ _ _ _ (by decide), reachable_after_reset _ _ _ _ (by decide),
    reachable_after_reset _ _ _ _ (by decide)⟩

/-- The access is granted, on main memory, at these places. -/
def granted (s : State) (via : Via) (u : PmaUse) (ea : Word) (n : Nat) (want : List (Nat × Nat)) : Bool :=
  match access s via u ea n with
  | .ok pas s1 => pas == want && pas.all fun p => !isIo s1.cfg p.1 p.2
  | .trap _ _ => false

/-- A configuration that supports misaligned accesses, with the attributes of RAM supporting them too. -/
def split : Config :=
  { Config.reference with misaligned := .supported, pma := [{ Config.ram with readMisaligned := [2, 4, 8], writeMisaligned := [2, 4, 8] }] }

/-- The access is granted, at an I/O address that is no register of the spec. -/
def grantedIo (s : State) (u : PmaUse) (ea : Word) (n : Nat) : Bool :=
  match access s .plain u ea n with
  | .ok pas s1 => pas == [(ea.toNat, n)] && isIo s1.cfg ea.toNat n && (deviceAt s1.cfg ea.toNat n).isNone
  | .trap _ _ => false

/-- In supervisor mode through an Sv39 page table, at the last doubleword of a page; a misaligned load and store, where the
attributes support them, within a page and across two pages; and between the memory-mapped registers, just above msip and just
below mtime. -/
theorem witness_AccessesInAnyMode :
    (let s := wX (sv39 0x200000CF) 2 0x402FF8
     avail s [.ld 1 2 0, .sd 2 1 0] = true ∧ Memory.wf s.mem = true ∧
     granted s .plain .load (effAddr s 2 0) 8 [(0x80000FF8, 8)] = true ∧
     granted s .plain .store (effAddr s 2 0) 8 [(0x80000FF8, 8)] = true) ∧
    (let s := small split [(2, 0x80000FFE)]
     avail s [.lw 1 2 0, .sd 2 1 0] = true ∧ Memory.wf s.mem = true ∧
     granted s .plain .load (effAddr s 2 0) 4 [(0x80000FFE, 2), (0x80001000, 2)] = true ∧
     granted s .plain .store (effAddr s 2 0) 8 [(0x80000FFE, 2), (0x80001000, 6)] = true ∧
     granted s .plain .store (effAddr s 2 3) 8 [(0x80001001, 8)] = true) ∧
    (let s := s64 [(2, 0x02000004), (3, 0x0200BFF4)]
     avail s [.lw 1 2 0, .lwu 1 3 0, .sw 2 1 0, .sw 3 1 0] = true ∧
     grantedIo s .load (effAddr s 2 0) 4 = true ∧ grantedIo s .store (effAddr s 2 0) 4 = true ∧
     grantedIo s .load (effAddr s 3 0) 4 = true ∧ grantedIo s .store (effAddr s 3 0) 4 = true) := by decide

/-- Address-misaligned at each width, and the access fault that stands in for it, of an access and of an atomic one. -/
theorem witness_MisalignedAccessesTrap :
    (let s := s64 [(1, 0x80000001), (2, 0x80000007)]
     avail s [.lh 3 1 0, .lhu 3 1 0, .lw 3 2 0, .lwu 3 2 0, .ld 3 2 0, .sh 1 3 0, .sw 2 3 0, .sd 2 3 0, .lrW true false 3 1,
       .lrD true false 3 1, .scW false true 3 2 1, .scD false true 3 2 1, .amoaddW false false 3 1 2,
       .amomaxuD false false 3 1 2, .hlvH 3 1, .hlvxWu 3 1, .hlvD 3 2, .hsvH 1 3, .hsvD 2 3] = true ∧
     guestAccessDenied s = none ∧
     s.cfg.misaligned = .addressMisaligned ∧ s.cfg.misalignedFirst = true ∧ (effAddr s 1 0).toNat % 2 ≠ 0 ∧
     (effAddr s 2 0).toNat % 4 ≠ 0 ∧ (effAddr s 2 0).toNat % 8 ≠ 0 ∧ (rX s 1).toNat % 4 ≠ 0 ∧ (rX s 2).toNat % 4 ≠ 0) ∧
    (∀ m ∈ [Misaligned.accessFault, .supported],
      let s := small { Config.reference with misaligned := m } [(1, 0x80000001)]
      s.cfg.misaligned = m ∧ s.cfg.misalignedFirst = true ∧
      avail s [.amoswapW false false 3 1 2, .lrD false false 3 1, .lw 3 1 0] = true ∧ (rX s 1).toNat % 8 ≠ 0) := by
  decide

/-- mtime and mtimecmp, whole and each half, at both widths; msip of the only hart, of the first and the last of two, and of
the last of 4095. -/
theorem witness_DeviceRegistersInMemory :
    (∀ s ∈ [s64 [(1, 0x0200BFF8), (2, 0x02004800)], s32 [(1, 0x0200BFF8), (2, 0x02004800)]],
     (s.cfg = Config.reference ∨ s.cfg = Config.reference32) ∧ s.priv = .M ∧ s.virt = false ∧ mstatusBit s MPRV = false ∧
     mstatusBit s MBE = false ∧ s.pmpStale = [] ∧ (∀ i : Fin 64, pmpA (s.pmp.cfg.get i) = 0) ∧
     (effAddr s 1 0).toNat = s.cfg.mtimeBase ∧ (effAddr s 1 4).toNat = s.cfg.mtimeBase + 4 ∧
     (effAddr s 2 0x800).toNat = s.cfg.mtimecmpBase ∧ (effAddr s 2 0x804).toNat = s.cfg.mtimecmpBase + 4) ∧
    (s64 []).cfg.rv64 = true ∧
    (∀ p ∈ [(1, 0), (2, 0), (2, 1), (4095, 4094)],
      let s := small { Config.reference with harts := p.1 } [(1, 0x02000000 + 4 * p.2)]
      s.cfg = { Config.reference with harts := p.1 } ∧ p.2 < p.1 ∧ p.1 ≤ 4095 ∧ Memory.wf s.mem = true ∧
      s.priv = .M ∧ s.virt = false ∧ mstatusBit s MPRV = false ∧ mstatusBit s MBE = false ∧
      s.pmpStale = [] ∧ (∀ i : Fin 64, pmpA (s.pmp.cfg.get i) = 0) ∧
      (effAddr s 1 0).toNat = s.cfg.msipBase + 4 * p.2) := by decide

theorem witness_FencesAndHintsRetire :
    avail (s64 []) [.fence 15 15 15 31 31, .fence 0 0 0 0 0, .fenceTso, .pause, .ntlP1, .ntlPall, .ntlS1, .ntlAll] = true ∧
    avail (s64 []) [.fenceI 0 0 0, .fenceI 0xFFF 31 31] = true := by
  decide

/-- On mscratch; a granted access, an illegal one and one that is a virtual instruction. -/
theorem witness_CsrInstructionsReadAndWrite :
    (avail (s64 []) [.csrrw 1 2 0x340, .csrrs 1 0 0x340, .csrrc 0 2 0x340, .csrrwi 1 31 0x340, .csrrsi 1 0 0x340,
      .csrrci 1 31 0x340, .csrrci 1 31 0x100] = true ∧ (s64 []).priv = .M ∧ (s64 []).virt = false) ∧
    csrCheck (s64 []) 0x340 true = .ok .mscratch ∧ csrCheck { s64 [] with priv := .U } 0x340 false = .error .illegal ∧
    csrCheck { s64 [] with priv := .U, virt := true } 0x100 true = .error .virtual := ⟨by decide, rfl, rfl, rfl⟩

/-- A state with the three counter-enable registers set. -/
def withEnables (p : Priv) (v : Bool) (m h u : BitVec 32) : State :=
  let s := s64 []
  { s with priv := p, virt := v, m := { s.m with mcounteren := m }, h := { s.h with hcounteren := h },
           sv := { s.sv with scounteren := u } }

/-- Bit n of each of the three. -/
def enables (s : State) (n : Nat) : List Bool :=
  [(csrRead s .mcounteren).getLsbD n, (csrRead s .hcounteren).getLsbD n, (csrRead s .scounteren).getLsbD n]

/-- A read-only CSR read; a hypervisor CSR from HS-mode; a supervisor CSR from VS-mode. Of the counters, cycle: forbidden by
each enable in the modes it binds, and allowed. Of the redirection, two addresses. -/
theorem witness_CsrPrivilegeIsEnforced :
    (csrCheck (s64 []) 0xF14 false = .ok .mhartid ∧ csrCheck { s64 [] with priv := .S } 0x600 true = .ok .hstatus ∧
      csrCheck { s64 [] with priv := .S, virt := true } 0x100 true = .ok .vsstatus) ∧
    (csrAt 0xC00 = some .cycle ∧ csrExists Config.reference .cycle = true ∧ (csrAt 0xC1F).isSome = true ∧
      enables (withEnables .S false 0 0 0) 0 = [false, false, false] ∧
      enables (withEnables .S true 1 0 1) 0 = [true, false, true] ∧
      enables (withEnables .U true 1 1 0) 0 = [true, true, false] ∧
      enables (withEnables .U false 1 0 0) 0 = [true, false, false] ∧
      enables (withEnables .U true 1 1 1) 0 = [true, true, true]) ∧
    (csrCheck (withEnables .S true 0 0 0) 0x106 true = .ok .scounteren ∧
      csrCheck (withEnables .S true 0 0 0) 0x144 false = .ok .vsip) :=
  ⟨⟨rfl, rfl, rfl⟩, by decide, rfl, rfl⟩

/-- The values of MPP that each configuration has and has not. -/
theorem witness_StatusWritesAreLegalised :
    (s64 []).cfg.rv64 = true ∧ (s32 []).cfg.rv64 = false ∧ (s64 []).cfg.hasS = true ∧ (s64 []).cfg.hasU = true ∧ (s64 []).cfg.hasPaging = true ∧
    (0x1800 : Word).toNat / 2 ^ 11 % 4 = 3 ∧ (0x1000 : Word).toNat / 2 ^ 11 % 4 = 2 := by decide

/-- Bare, Sv39 and a MODE that no configuration has, and the same at XLEN = 32, where the MODE not supported is Sv32;
Direct, Vectored, a reserved MODE, and Vectored where it is not supported; minstret written in M-mode. -/
theorem witness_CsrWritesLeaveLegalValues :
    (let s := s64 []
     s.cfg.valid = true ∧ s.cfg.rv64 = true ∧ getField 0 60 4 = 0 ∧
     getField 0x8000000000000001 60 4 ∈ s.cfg.satpModes ∧ getField 0x8000000000000001 60 4 ∈ s.cfg.hgatpModes ∧
     getField 0xB000000000000000 60 4 ≠ 0 ∧ getField 0xB000000000000000 60 4 ∉ s.cfg.satpModes ∧
     getField 0xB000000000000000 60 4 ∉ s.cfg.hgatpModes) ∧
    (let s := s32 []
     s.cfg.valid = true ∧ s.cfg.rv64 = false ∧ getField 0x80000001 31 1 ∈ s.cfg.satpModes ∧
     getField 0x80000001 31 1 ∈ s.cfg.hgatpModes) ∧
    (let c := { Config.reference32 with satpModes := [], hgatpModes := [], hasH := false }
     c.valid = true ∧ c.rv64 = false ∧ getField 0x80000001 31 1 ≠ 0 ∧ getField 0x80000001 31 1 ∉ c.satpModes ∧
     getField 0x80000001 31 1 ∉ c.hgatpModes) ∧
    (∀ vectored, let s := small { Config.reference with mtvecVectored := vectored } []
     s.cfg.mtvecVectored = vectored ∧ getField (0x80000200 : Word) 0 2 = 0 ∧ getField (0x80000201 : Word) 0 2 = 1 ∧
     getField (0x80000203 : Word) 0 2 = 3 ∧ getField (csrRead (csrWrite s .mtvec 0x80000201) .mtvec) 0 2 = vectored.toNat) ∧
    ((s64 []).priv = .M ∧ (s64 []).virt = false ∧ avail (s64 []) [.csrrw 1 2 0xB02] = true) := by decide

/-- The reference configurations, one with all guest interrupts, one whose exceptions all write zero to mtval; PBMTE set and
cleared. -/
theorem witness_CsrWriteMasks :
    (s64 []).cfg.hasH = true ∧ (s64 []).cfg.valid = true ∧ (s64 []).cfg.xtvalMask.getLsbD 0 = true ∧
    (let s := small { Config.reference with geiLen := 63 } []
     s.cfg.valid = true ∧ (csrRead (csrWrite s .hstatus 0xFFFFFFFFFFFFFFFF) .hstatus).getLsbD 17 = true) ∧
    (let s := small { Config.reference with xtvalMask := 0, hasH := false } []
     s.cfg.valid = true ∧ (∀ c < 64, s.cfg.xtvalMask.getLsbD c = false) ∧ csrRead (csrWrite s .mtval 1) .mtval = 0) ∧
    ((s32 []).cfg.valid = true ∧ (s32 []).cfg.hasH = true ∧ (s32 []).cfg.rv64 = false) ∧
    (let pbmte (v : Word) := (csrRead (csrWrite (s64 []) .menvcfg v) .menvcfg).getLsbD 62
     pbmte 0 = false ∧ pbmte 0x4000000000000000 = true) := by
  decide

/-- Each mode, with TVM and VTVM clear and set. -/
theorem witness_TranslationCsrsAreGuarded :
    let bit (s : State) (i : Nat) := mstatusBit s i
    (s64 []).cfg.hasS = true ∧ (s64 []).cfg.hasH = true ∧ bit (setMstatus (s64 []) TVM true) TVM = true ∧
    bit (s64 []) TVM = false ∧ hstatusBit (setHstatus (s64 []) VTVM true) VTVM = true ∧
    hstatusBit (s64 []) VTVM = false := by decide

theorem witness_InterruptRegistersAndTheirViews : (s64 []).cfg.hasS = true ∧ (s64 []).cfg.hasH = true := by decide

/-- The registers of the last implemented entry and of the last of all, at both widths. Entry 15, the last implemented, is
locked, and as the top of a range locks the address below it; entry 13 is not. -/
theorem witness_PmpWritesKeepLocksAndLegalValues :
    (csrExists (s64 []).cfg (.pmpcfg 2) = true ∧ 4 * 2 + 7 < (s64 []).cfg.pmpEntries ∧
      csrExists (s64 []).cfg (.pmpcfg 14) = true ∧ (s64 []).cfg.pmpEntries ≤ 4 * 14 + 7) ∧
    (csrExists (s32 []).cfg (.pmpcfg 3) = true ∧ 4 * 3 + 3 < (s32 []).cfg.pmpEntries ∧
      csrExists (s32 []).cfg (.pmpcfg 15) = true ∧ (s32 []).cfg.pmpEntries ≤ 4 * 15 + 3) ∧
    let s := s64 []
    let p : Pmp := { s.pmp with cfg := s.pmp.cfg.set 15 0x88 }
    let t : State := { s with pmp := p }
    getField (csrRead t (.pmpcfg 2)) (8 * 7) 8 / 128 = 1 ∧ getField (csrRead t (.pmpcfg 2)) (8 * 6) 8 / 128 = 0 ∧
    (13 : Fin 64).val < s.cfg.pmpEntries ∧ pmpL (p.cfg.get 13) = false ∧ pmpL (p.cfg.get 14) = false ∧
    (15 : Fin 64).val < s.cfg.pmpEntries ∧ pmpL (p.cfg.get 15) = true ∧ (14 : Fin 64).val < s.cfg.pmpEntries ∧
    (15 : Fin 64).val = (14 : Fin 64).val + 1 ∧ pmpA (p.cfg.get 15) = 1 := by decide

/-- In M-mode, and in S-mode through an Sv39 page table. -/
theorem witness_LoadReservedCompletes :
    let s := s64 [(2, 0x80000000), (3, 0x8000FFF8)]
    avail s [.lrW true true 1 2, .lrD false false 0 3] = true ∧ Reachable s .lr (uReg s 2) 4 ∧ Reachable s .lr (uReg s 3) 8 ∧
    granted (sv39 0x200000CF) .plain .lr 0x402FF8 8 [(0x80000FF8, 8)] = true :=
  ⟨by decide, reachable_after_reset _ _ _ _ (by decide), reachable_after_reset _ _ _ _ (by decide), by decide⟩

/-- With the reservation of another word of the same block, and with none; the same in S-mode. -/
theorem witness_StoreConditionalCompletes :
    let s := s64 [(2, 0x8000003C), (3, 0x8000FFF8)]
    let v : Reservation := { block := 0x80000000 / 64, addr := 0x80000000, ea := 0x80000000, size := 4 }
    avail s [.scW true true 1 2 2, .scD false false 0 3 3] = true ∧ s.cfg.valid = true ∧ Memory.wf s.mem = true ∧
    Reachable s .sc (uReg s 2) 4 ∧
    Reachable s .sc (uReg s 3) 8 ∧ s.resv = none ∧
    (let t : State := setResv s (some v)
     Reachable t .sc (uReg t 2) 4 ∧ ∃ v, t.resv = some v ∧ v.block = uReg t 2 / 2 ^ t.cfg.rsetLog2) ∧
    (let t : State := setResv (sv39 0x200000CF) (some v)
     Memory.wf t.mem = true ∧ granted t .plain .sc 0x40203C 4 [(0x8000003C, 4)] = true ∧
     v.block = 0x8000003C / 2 ^ t.cfg.rsetLog2 ∧ granted t .plain .sc 0x402FF8 8 [(0x80000FF8, 8)] = true ∧
     v.block ≠ 0x80000FF8 / 2 ^ t.cfg.rsetLog2) := by
  have h4 := reachable_after_reset .sc 0x8000003C 4 [(2, 0x8000003C), (3, 0x8000FFF8)] (by decide)
  have h8 := reachable_after_reset .sc 0x8000FFF8 8 [(2, 0x8000003C), (3, 0x8000FFF8)] (by decide)
  exact ⟨by decide, by decide, by decide, h4, h8, rfl,
    ⟨⟨h4.machine, h4.notVirtual, h4.noMprv, h4.aligned, h4.attributes, h4.mainMemory, h4.protection, h4.synchronised⟩,
    _, rfl, by decide⟩, by decide⟩

/-- In M-mode, and in S-mode through an Sv39 page table. -/
theorem witness_AmosOnWords :
    let s := s64 [(2, 0x80000000), (3, 0x8000FFFC)]
    avail s [.amoswapW true true 1 2 3, .amoaddW false false 0 2 2, .amoxorW true false 1 2 3, .amoandW false true 1 2 3,
      .amoorW false false 1 2 3, .amominW false false 1 2 3, .amomaxW false false 1 2 3, .amominuW false false 1 2 3,
      .amomaxuW false false 1 2 3] = true ∧ Memory.wf s.mem = true ∧
    Reachable s (.amo .swap) (uReg s 2) 4 ∧ Reachable s (.amo .add) (uReg s 3) 4 ∧ Reachable s (.amo .xor) (uReg s 2) 4 ∧
    Reachable s (.amo .maxu) (uReg s 3) 4 ∧ Memory.wf (sv39 0x200000CF).mem = true ∧
    granted (sv39 0x200000CF) .plain (.amo .maxu) 0x402FFC 4 [(0x80000FFC, 4)] = true :=
  ⟨by decide, by decide, reachable_after_reset _ _ _ _ (by decide), reachable_after_reset _ _ _ _ (by decide),
    reachable_after_reset _ _ _ _ (by decide), reachable_after_reset _ _ _ _ (by decide), by decide, by decide⟩

theorem witness_AmosOnDoublewords :
    let s := s64 [(2, 0x80000000), (3, 0x8000FFF8)]
    avail s [.amoswapD true true 1 2 3, .amoaddD false false 0 2 2, .amoxorD true false 1 2 3, .amoandD false true 1 2 3,
      .amoorD false false 1 2 3, .amominD false false 1 2 3, .amomaxD false false 1 2 3, .amominuD false false 1 2 3,
      .amomaxuD false false 1 2 3] = true ∧ Memory.wf s.mem = true ∧
    Reachable s (.amo .swap) (uReg s 2) 8 ∧ Reachable s (.amo .min) (uReg s 3) 8 ∧ Reachable s (.amo .or) (uReg s 2) 8 ∧
    granted (sv39 0x200000CF) .plain (.amo .min) 0x402FF8 8 [(0x80000FF8, 8)] = true :=
  ⟨by decide, by decide, reachable_after_reset _ _ _ _ (by decide), reachable_after_reset _ _ _ _ (by decide),
    reachable_after_reset _ _ _ _ (by decide), by decide⟩

/-- No reservation; a reset; and stores of a hart and of a device at the first and the last byte of the set and of the LR's
word, and beside them. -/
theorem witness_OtherAgentsEndReservations :
    let v : Reservation := { block := 0x2000000, addr := 0x80000008, ea := 0x80000008, size := 4 }
    let s := setResv (s64 []) (some v)
    let e : Input :=
      { mei := false, sei := false, gei := 0, nmi := false, reset := false, stores := [], deviceStores := [],
        dropResv := false, msip := none, mtime := none, mtimecmp := none, walks := [] }
    let after (x : Input) := ((applyInput s x).resv.map (·.block))
    (s64 []).resv = none ∧ s.resv = some v ∧ e.reset = false ∧ { e with reset := true }.reset = true ∧
    after e = some 0x2000000 ∧
    (∀ a ∈ [0x80000000, 0x8000003F], after { e with stores := [(a, 1)] } = none ∧ a / 2 ^ s.cfg.rsetLog2 = v.block) ∧
    (∀ a ∈ [0x7FFFFFFF, 0x80000040], after { e with stores := [(a, 1)] } = some 0x2000000) ∧
    (∀ a ∈ [0x80000008, 0x8000000B], after { e with deviceStores := [(a, 1)] } = none ∧ v.addr ≤ a ∧ a < v.addr + v.size) ∧
    (∀ a ∈ [0x80000007, 0x8000000C], after { e with deviceStores := [(a, 1)] } = some 0x2000000 ∧
      after { e with deviceStores := [(a, 1)], dropResv := true } = none) ∧
    (let near (a : Nat) := setResv (s64 []) (some { block := a / 64, addr := 0x02000020, ea := 0x02000020, size := 4 })
     let ends (a : Nat) (x : Input) := ((applyInput (near a) x).resv.isNone : Bool)
     ∀ p ∈ [({ e with mtime := some 1 }, 0x0200BFFF), ({ e with mtimecmp := some 1 }, 0x02004007),
         ({ e with msip := some true }, 0x02000003), ({ e with stores := [(0x02000000, 1)] }, 0x02000003)],
       ends p.2 p.1 = true ∧ ends (p.2 + 64) p.1 = false) ∧
    (let wrote (a : Nat) := (applyInput (s64 []) { e with deviceStores := [(a, 0xA5)] }).plat
     (s64 []).cfg.valid = true ∧ (∀ a ∈ [0x0200BFF8, 0x0200BFFF, 0x02004000, 0x02000000], isIo (s64 []).cfg a 1 = true) ∧
     (wrote 0x0200BFF8).mtime = 0xA5 ∧ (wrote 0x0200BFFF).mtime = 0xA500000000000000 ∧
     (wrote 0x02004000).mtimecmp = 0xA5 ∧ (wrote 0x02000000).msip = true) := by decide

theorem witness_EcallAndEbreakTrap : (∃ t, exec .ecall (s64 []) = .next t) ∧ ∃ t, exec .ebreak (s64 []) = .next t :=
  ⟨⟨_, rfl⟩, _, rfl⟩

/-- The state in a mode. -/
def inMode (p : Priv) (v : Bool) : State := { s64 [] with priv := p, virt := v }

/-- The same with a bit of mstatus set. -/
def withMstatus (p : Priv) (v : Bool) (i : Nat) : State := setMstatus (inMode p v) i true

/-- The same with a bit of hstatus set. -/
def withHstatus (p : Priv) (v : Bool) (i : Nat) : State := setHstatus (inMode p v) i true

theorem witness_TrapReturns :
    ((s64 []).priv = .M ∧ (inMode .S false).priv ≠ .M) ∧
    (s64 []).cfg.valid = true ∧ (s64 []).cfg.hasS = true ∧ (s64 []).cfg.hasH = true ∧
    mstatusBit (inMode .S false) TSR = false ∧ mstatusBit (withMstatus .S false TSR) TSR = true ∧
    hstatusBit (inMode .S true) VTSR = false ∧ hstatusBit (withHstatus .S true VTSR) VTSR = true ∧
    (inMode .U true).virt = true ∧ (inMode .M false).priv = .M := by decide

/-- WFI where it runs and where each bit or mode restricts it, with a limit of zero and not; with an interrupt pending and
without; a hart stalled with nothing pending and with the timer interrupt enabled in mie. -/
theorem witness_WfiStallsAndResumes :
    (mstatusBit (inMode .S false) TW = false ∧ hstatusBit (inMode .S true) VTW = false ∧
      mstatusBit (withMstatus .S false TW) TW = true ∧ mstatusBit (withHstatus .S true VTW) TW = false ∧
      hstatusBit (withHstatus .S true VTW) VTW = true ∧ (inMode .U false).cfg.hasS = true ∧
      (inMode .U false).cfg.wfiLimitZero = true) ∧
    (let s := { small { Config.reference with wfiLimitZero := false } [] with priv := .U }
     let t : State := { s with m := { s.m with mie := 0x80 } }
     s.cfg.wfiLimitZero = false ∧ s.virt = false ∧ anyPending s = false ∧ anyPending t = true) ∧
    (let s : State := { s64 [] with stalled := true }
     let t : State := { s with m := { s.m with mie := 0x80 } }
     (s.inputs = [] ∧ (boundaryTrap s).isNone = true ∧ s.stalled = true ∧ anyPending s = false) ∧
     ((boundaryTrap t).isNone = true ∧ anyPending t = true)) := by decide

/-- x0 and named operands; an address that Sv39 allows and one that it does not; the modes that run and that trap. -/
theorem witness_SupervisorFencesActOrTrap :
    avail (s64 []) [.sfenceWInval, .sfenceInvalIr, .sfenceVma 0 0, .sfenceVma 31 31, .sinvalVma 0 0, .sinvalVma 1 0] = true ∧
    (let s := sv39 0x200000CF
     validVa s.cfg (satpRead s) 0x402ABC = true ∧ validVa s.cfg (satpRead s) 0x4000000000 = false) ∧
    (let s := inMode .S true
     let t : State := { s with vs := { s.vs with vsatp := 0x8000000000080000 } }
     validVa t.cfg (vsatpRead t) 0x3FFFFFFFFF = true ∧ validVa t.cfg (vsatpRead t) 0x4000000000 = false) ∧
    mstatusBit (inMode .S false) TVM = false ∧ mstatusBit (withMstatus .S false TVM) TVM = true ∧
    hstatusBit (inMode .S true) VTVM = false ∧ hstatusBit (withHstatus .S true VTVM) VTVM = true ∧
    (inMode .S true).priv ≠ .U ∧ (inMode .U false).virt = false ∧ (inMode .U true).virt = true := by decide

theorem witness_HypervisorFencesInvalidate :
    avail (s64 []) [.hfenceVvma 0 0, .hinvalVvma 31 0, .hfenceGvma 0 0, .hinvalGvma 0 31] = true ∧
    (let s := s64 []
     let t : State := { s with vs := { s.vs with vsatp := 0x8000000000080000 } }
     validVa t.cfg (vsatpRead t) 0x3FFFFFFFFF = true ∧ validVa t.cfg (vsatpRead t) 0x4000000000 = false) ∧
    mstatusBit (inMode .S false) TVM = false ∧ mstatusBit (withMstatus .S false TVM) TVM = true := by decide

/-- With PMP entry 0 open to every mode, hstatus.SPVP zero and one. -/
def guestState (spvp : Bool) : State :=
  let s := setHstatus (s64 [(2, 0x80000000), (3, 0x8000FFF8)]) SPVP spvp
  { s with pmp := { cfg := s.pmp.cfg.set 0 0x1F, addr := s.pmp.addr.set 0 0x3FFFFFFFFFFFFF } }

theorem guest_reachable (b : Bool) (u : PmaUse) (ea n : Nat)
    (h : (decide ((guestState b).priv = .M) && decide ((guestState b).virt = false) &&
      decide (atpMode (guestState b).cfg (vsatpRead (guestState b)) = 0) &&
      decide (atpMode (guestState b).cfg (hgatpRead (guestState b)) = 0) && decide (ea % n = 0) &&
      pmaAllows (guestState b).cfg .pma ea n n u && !isIo (guestState b).cfg ea n &&
      pmpCheck (guestState b).cfg (guestState b).pmp ea n (useAcc u) (effMode (guestState b) .guest).1 &&
      (guestState b).pmpStaleG.isEmpty) = true) : GuestReachable (guestState b) u ea n := by
  simp only [Bool.and_eq_true, decide_eq_true_eq, Bool.not_eq_true', List.isEmpty_iff] at h
  obtain ⟨⟨⟨⟨⟨⟨⟨⟨h1, h2⟩, h3⟩, h4⟩, h5⟩, h6⟩, h7⟩, h8⟩, h9⟩ := h
  exact ⟨h1, h2, h3, h4, h5, h6, h7, h8, h9⟩

/-- In HS-mode, the tree of `sv39` under vsatp instead of satp; hgatp Bare. -/
def guestPaged : State :=
  let s := sv39 0x200000CF
  setHstatus { s with sv := { s.sv with satp := 0 }, vs := { s.vs with vsatp := 0x8000000000080000 } } SPVP true

/-- In M-mode, and in HS-mode through a VS-stage page table. -/
theorem witness_GuestLoadsComplete :
    let s := guestState false
    let t := guestState true
    avail s [.hlvB 1 2, .hlvBu 1 2, .hlvH 1 2, .hlvHu 1 2, .hlvxHu 1 2, .hlvW 1 2, .hlvWu 1 2, .hlvxWu 1 2, .hlvD 0 3] =
      true ∧
    GuestReachable s .load (uReg s 2) 1 ∧ GuestReachable t .load (uReg t 2) 2 ∧ GuestReachable s .hlvx (uReg s 2) 4 ∧
    GuestReachable t .load (uReg t 3) 8 ∧
    (let v := guestPaged
     guestAccessDenied v = none ∧ granted v .guest .load 0x402FF8 8 [(0x80000FF8, 8)] = true ∧
     granted v .guest .hlvx 0x402FFE 2 [(0x80000FFE, 2)] = true) :=
  ⟨by decide, guest_reachable _ _ _ _ (by decide), guest_reachable _ _ _ _ (by decide),
    guest_reachable _ _ _ _ (by decide), guest_reachable _ _ _ _ (by decide), by decide⟩

/-- The same, and a store across two pages. -/
theorem witness_GuestStoresComplete :
    let s := guestState false
    let t := guestState true
    avail s [.hsvB 2 3, .hsvH 2 3, .hsvW 2 3, .hsvD 3 3] = true ∧ Memory.wf s.mem = true ∧
    Memory.wf t.mem = true ∧ GuestReachable s .store (uReg s 2) 1 ∧
    GuestReachable t .store (uReg t 3) 8 ∧
    (let v := guestPaged
     guestAccessDenied v = none ∧ Memory.wf v.mem = true ∧ granted v .guest .store 0x402FF8 8 [(0x80000FF8, 8)] = true) ∧
    (let v := { guestState true with cfg := split }
     avail v [.hsvD 3 3] = true ∧ guestAccessDenied v = none ∧ Memory.wf v.mem = true ∧
     granted v .guest .store 0x80000FFE 8 [(0x80000FFE, 2), (0x80001000, 6)] = true) :=
  ⟨by decide, by decide, by decide, guest_reachable _ _ _ _ (by decide), guest_reachable _ _ _ _ (by decide), by decide,
    by decide⟩

/-- The hart's own stores keep its reservation, an HSV too (45_a R708). -/
theorem test_own_stores_keep_the_reservation :
    let v (b : Nat) : Option Reservation := some { block := b, addr := 64 * b, ea := BitVec.ofNat 64 (64 * b), size := 4 }
    let after (i : Instr) (b : Nat) :=
      match exec i (setResv (guestState true) (v b)) with
      | .next t => t.resv.map (·.block)
      | _ => none
    after (.sb 2 3 0) 0x2000000 = some 0x2000000 ∧ after (.hsvB 2 3) 0x2000000 = some 0x2000000 := by decide

/-- Sv32x4 tables that map the guest physical addresses from 0x3_0000_0000 up: out of reach of vsatp in Bare. -/
def guestRoot : State :=
  let s := withMem (withMem (s32 []) 0x80003000 4 0x20001001) 0x80004000 4 0x200020DF
  { s with h := { s.h with hgatp := 0x80080000 },
           pmp := { cfg := s.pmp.cfg.set 0 0x1F, addr := s.pmp.addr.set 0 0xFFFFFFFF } }

/-- A speculative walk of hgatp's tables alone brings both of their entries into the cache (22_translation R473). -/
theorem test_speculative_g_stage_walk :
    (specWalk guestRoot { stage := .g, addr := 0x300000000, fetch := false, user := false, setA := false, setAVs := false }).tc.map
      (fun e => (e.stage, e.pteAddr, e.pte)) = [(.g, 0x80004000, 0x200020DF), (.g, 0x80003000, 0x20001001)] := by decide

/-- HLVX asks for an execute access of its width (20_memory R351): a region may execute words only. -/
theorem test_execute_widths :
    let r := { Config.ram with execWidths := [4] }
    regionAllows Config.reference r 0x80000000 4 4 .exec = true ∧ regionAllows Config.reference r 0x80000000 4 4 .hlvx = true ∧
    regionAllows Config.reference r 0x80000000 2 2 .hlvx = false := by decide

/-- With the hypervisor extension mtval is no read-only zero (13_csr_hypervisor R250). -/
theorem test_mtval_with_hypervisor :
    { Config.reference with xtvalMask := 0 }.valid = false ∧ Config.reference.valid = true ∧ Config.reference32.valid = true ∧
    { Config.reference with xtvalMask := 0, hasH := false }.valid = true := by decide

theorem witness_GuestAccessNeedsItsMode :
    (s64 []).cfg.hasH = true ∧ avail (s64 []) [.hlvB 1 2, .hsvD 1 2, .hfenceVvma 0 0, .hfenceGvma 0 0] = true ∧
    guestAccessDenied (inMode .U false) = some .illegal ∧ guestAccessDenied (withHstatus .U false HU) = none ∧
    hfenceVDenied (inMode .S true) = some .virtual ∧ hfenceGDenied (withMstatus .S false TVM) = some .illegal := by decide

theorem witness_TrapsIntoMachineModeSave : (31 : Nat) < 32 ∧ (s64 []).cfg.hasH = true := by decide

theorem witness_TrapsIntoSupervisorModeSave :
    (23 : Nat) < 32 ∧ (s64 []).cfg.hasS = true ∧ (s64 []).cfg.hasH = true := by decide

/-- The lowest interrupt, the highest code, and exception 0. -/
theorem witness_TrapsIntoVirtualSupervisorModeSave :
    ((true = true → 1 ≤ 1) ∧ (1 : Nat) < 32) ∧ ((true = true → 1 ≤ 31) ∧ (31 : Nat) < 32) ∧
    ((false = true → 1 ≤ 0) ∧ (0 : Nat) < 32) := by decide

/-- A page fault of VS-mode: not delegated, delegated once and delegated twice. -/
theorem witness_ExceptionsGoWhereDelegated :
    let s := inMode .S true
    let t : State := { s with m := { s.m with medeleg := 0x2000 } }
    let u : State := { t with h := { t.h with hedeleg := 0x2000 } }
    (medelegRead s).getLsbD 13 = false ∧
    (t.priv ≠ .M ∧ t.cfg.hasS = true ∧ (medelegRead t).getLsbD 13 = true ∧ (hedelegRead t).getLsbD 13 = false) ∧
    (u.cfg.hasH = true ∧ u.virt = true ∧ (medelegRead u).getLsbD 13 = true ∧ (hedelegRead u).getLsbD 13 = true) := by decide

/-- A page fault to each destination, a guest-page fault, and one with the pseudoinstructions off. -/
theorem witness_RaiseFillsTheTrapRegisters :
    let s := inMode .S true
    let t : State := { s with m := { s.m with medeleg := 0x202000 } }
    let u : State := { t with h := { t.h with hedeleg := 0x2000 } }
    (13 : Nat) < 32 ∧ (23 : Nat) < 32 ∧ excDest s 13 = .M ∧ excDest t 13 = .S ∧ excDest t 21 = .S ∧ excDest u 13 = .VS ∧
    s.cfg.hasH = true ∧ s.cfg.tinstPseudo = true := by decide

/-- The access is refused with this cause, trap value and GVA. -/
def refused (s : State) (via : Via) (u : PmaUse) (ea : Word) (n cause : Nat) (tval : Word) (gva : Bool) : Bool :=
  match access s via u ea n with
  | .ok _ _ => false
  | .trap e _ => e.cause == cause && e.tval == tval && e.gva == gva

/-- Two-stage translation under an Sv39x4 table. -/
def guestStaged : State := { guestState true with h := { (guestState true).h with hgatp := 0x8000000000080000 } }

/-- `split` with one page of RAM. -/
def onePage : Config := { split with pma := [{ Config.ram with size := 0x1000, writeMisaligned := [8] }] }

/-- A load of a vacant address, a misaligned SC, a store to a page that is not dirty, an HSV whose guest address is beyond
Sv39x4, and the second part of a store that leaves RAM. -/
theorem witness_RefusedAccessesTrap :
    avail (s64 []) [.lb 1 2 0, .scW false false 1 2 3, .sw 1 2 0, .hsvB 1 2] = true ∧
    avail (small onePage []) [.sd 1 2 0] = true ∧ (guestAccessDenied guestStaged).isNone = true ∧
    refused (s64 []) .plain .load 0x1000 1 5 0x1000 false = true ∧
    refused (s64 []) .plain .sc 0x80000002 4 6 0x80000002 false = true ∧
    refused (sv39 0x2000004F) .plain .store 0x402ABC 4 15 0x402ABC false = true ∧
    refused guestStaged .guest .store 0x20000000000 1 23 0x20000000000 true = true ∧
    refused (small onePage []) .plain .store 0x80000FFE 8 7 0x80001000 false = true := by decide

/-- M-mode with MIE set takes the timer's interrupt, with MIE clear none; a supervisor interrupt is takeable to S-mode, and a
VS-level one to HS-mode and, further delegated, to VS-mode. -/
theorem witness_InterruptsAreTakenInOrder :
    let s := s64 []
    (s.priv = .M ∧ mstatusBit s MIE = false) ∧
    (let t : State := setMstatus { s with m := { s.m with mie := 0x80 } } MIE true
     t.priv = .M ∧ pendingInterrupt t = some (7, .M) ∧ s.cfg.hasS = true) ∧
    (let t : State := { inMode .U false with m := { s.m with mie := 2, mip := 2, mideleg := 2 } }
     takeable t .S 1 = true ∧ takeable t .M 1 = false ∧ takeable { t with priv := .S } .S 1 = false) ∧
    (let t : State := { inMode .U true with m := { s.m with mie := 4 }, h := { s.h with hvip := 4 } }
     let u : State := { t with h := { t.h with hideleg := 4 } }
     takeable t .S 2 = true ∧ takeable u .VS 2 = true ∧ takeable u .S 2 = false ∧
     takeable { u with priv := .S } .VS 2 = false) := by decide

/-- With the lowest and the highest cause. -/
theorem witness_NmiIsTakenFirst :
    ∀ c ∈ [0, 2 ^ 63 - 1],
      let s : State := { small { Config.reference with nmiCause := c } [] with plat := { (s64 []).plat with nmi := true } }
      s.inputs = [] ∧ s.plat.nmi = true ∧ s.cfg.nmiCause < 2 ^ (s.cfg.xlen - 1) := by decide

/-- What the fetch answers. -/
def fetched (s : State) : Option (Inst ⊕ Nat) :=
  match fetch s with
  | .ok w _ => some (.inl w)
  | .trap e _ => some (.inr e.cause)

/-- No trap at the boundary. -/
def quiet (s : State) : Prop := s.inputs = [] ∧ (boundaryTrap s).isNone = true ∧ s.stalled = false

/-- An instruction, a word that decodes to none, and a fetch that traps. -/
theorem witness_StepRunsTheDecodedInstruction :
    (quiet (withMem (s64 []) 0x80000000 4 0x00000013) ∧
      fetched (withMem (s64 []) 0x80000000 4 0x00000013) = some (.inl 0x00000013) ∧ decode 0x00000013 = some .nop) ∧
    (quiet (s64 []) ∧ fetched (s64 []) = some (.inl 0) ∧ decode 0 = none) ∧
    (quiet { s64 [] with pc := 0 } ∧ fetched { s64 [] with pc := 0 } = some (.inr 1)) := by
  unfold quiet; decide

/-- At the first and at the last word of RAM. -/
theorem witness_FetchReadsMemoryAtPc :
    (∀ a ∈ [0x80000000, 0x8000FFFC],
      let s : State := { s64 [] with pc := BitVec.ofNat 64 a }
      s.priv = .M ∧ s.virt = false ∧ s.istale = [] ∧ s.pmpStale = [] ∧ pmaAllows s.cfg .pma s.pc.toNat 4 4 .exec = true ∧
      isIo s.cfg s.pc.toNat 4 = false ∧ pmpCheck s.cfg s.pmp s.pc.toNat 4 .exec .M = true) := by decide

theorem witness_OnlyReturnsLowerThePrivilege :
    Instr.ecall ≠ .mret ∧ Instr.ecall ≠ .sret ∧ ∃ t, exec .ecall (inMode .U true) = .next t := ⟨by decide, by decide, _, rfl⟩

theorem witness_UserModeChangesNoControlState :
    (inMode .U false).priv = .U ∧ ∃ t, exec .nop (inMode .U false) = .next t ∧ t.priv = .U := ⟨rfl, _, rfl, rfl⟩

/-- No entry matches; entry 0 matches; entry 15 is the first that does. Of each matching mode the ends of its range: NA4, TOR
from 0 and from the entry before, NAPOT of 8 bytes, of all addresses, and with granularity 2. -/
theorem witness_PmpEntriesDecide :
    (let c := Config.reference
     let p := (s64 []).pmp
     let q : Pmp := { cfg := p.cfg.set 0 0x11, addr := p.addr.set 0 0x20000000 }
     let r : Pmp := { cfg := p.cfg.set 15 0x11, addr := p.addr.set 15 0x20000000 }
     c.pmpEntries = 16 ∧
     (∀ i : Fin 64, i.val < c.pmpEntries → rangeTouches (pmpRange c p i) 0x80000000 4 = false) ∧
     rangeTouches (pmpRange c q 0) 0x80000003 1 = true ∧
     (rangeTouches (pmpRange c r 15) 0x80000000 4 = true ∧
       ∀ j : Fin 64, j.val < 15 → rangeTouches (pmpRange c r j) 0x80000000 4 = false)) ∧
    (let at1 (g : Nat) (a : BitVec 8) (lo hi : Word) (i : Fin 64) (y : Nat) :=
       let z := (s64 []).pmp
       rangeTouches (pmpRange { Config.reference with pmpG := g }
         { cfg := (z.cfg.set 0 a).set 1 a, addr := (z.addr.set 0 lo).set 1 hi } i) y 1
     Config.reference.pmpG < Config.reference.xlen ∧ pmpA 0x10 = 2 ∧ pmpA 0x08 = 1 ∧ pmpA 0x18 = 3 ∧ pmpA 0x67 = 0 ∧
     [0x3F, 0x40, 0x43, 0x44].map (at1 0 0x10 0 0x10 1) = [false, true, true, false] ∧
     [0, 0x3F, 0x40].map (at1 0 0x08 0x10 0x20 0) = [true, true, false] ∧
     [0x3F, 0x40, 0x7F, 0x80].map (at1 0 0x08 0x10 0x20 1) = [false, true, true, false] ∧
     [0x3F, 0x40, 0x47, 0x48].map (at1 0 0x18 0 0x10 1) = [false, true, true, false] ∧
     [0, 2 ^ 56].map (at1 0 0x18 0 0x3FFFFFFFFFFFFF 1) = [true, true] ∧
     [0x3F, 0x40, 0x4F, 0x50].map (at1 2 0x18 0 0x10 1) = [false, true, true, false]) := by decide

theorem witness_TranslationKeepsThePageOffset : translated (sv39 0x200000CF) .load 0x402FFF = some (.inl 0x80000FFF) := by
  decide

/-- Bare at each stage; and the first and the last address that is not canonical, under each scheme. -/
theorem witness_BareIsIdentityAndNonCanonicalFaults :
    (atpMode Config.reference (satpRead (inMode .S false)) = 0 ∧ atpMode Config.reference (vsatpRead (inMode .U true)) = 0 ∧
      atpMode Config.reference (hgatpRead (inMode .U true)) = 0) ∧
    (let s (mode : Word) : State := { s64 [] with priv := .S, sv := { (s64 []).sv with satp := mode <<< 60 } }
     (s64 []).cfg.rv64 = true ∧ (s64 []).cfg.hasS = true ∧
     atpMode Config.reference (satpRead (s 8)) = 8 ∧ atpMode Config.reference (satpRead (s 9)) = 9 ∧
     atpMode Config.reference (satpRead (s 10)) = 10 ∧
     ((2 : Int) ^ 38 ≤ (0x0000004000000000 : Word).toInt ∧ (0xFFFFFFBFFFFFFFFF : Word).toInt < -2 ^ 38) ∧
     ((2 : Int) ^ 47 ≤ (0x0000800000000000 : Word).toInt ∧ (0xFFFF7FFFFFFFFFFF : Word).toInt < -2 ^ 47) ∧
     ((2 : Int) ^ 56 ≤ (0x0100000000000000 : Word).toInt ∧ (0xFEFFFFFFFFFFFFFF : Word).toInt < -2 ^ 56)) := by decide

/-- A load at 0x402ABC in S-mode, and its walk of `sv39`'s tables. -/
def loadReq : Req :=
  { acc := .load, priv := .S, virt := false, va := 0x402ABC, ea := 0x402ABC, spec := false, setA := true, setAVs := true }

def walkOf (s : State) : Walk := sWalk s loadReq

/-- Nothing is cached, memory answers, and entries of each kind: not valid, a pointer, a pointer at the last level, a leaf
that may not be read, one that is not marked, a superpage that is not aligned, a good one, a NAPOT one and one of IO type. -/
theorem witness_WalkStepsDecide :
    (let s := sv39 0x200000CF
     let w := walkOf s
     let q := 0x80002000 + w.vpn 0 * w.pteSize
     tcValues s w q 0 = [] ∧
     (match (physLoc s q false).bind fun m u => pteRead loadReq w u m with
      | .ok pte s1 => decide (pte = 0x200000CF) && !s1.cfg.adUpdate
      | .trap _ _ => false) = true) ∧
    [0x0, 0x20000401, 0x200000C9, 0x2000000F, 0x200004CF, 0x200000CF, 0x80000000200020CF, 0x40000000200000CF].map
      (fun (p : Word) => (pteValid Config.reference { walkOf (sv39 0) with pbmt := true } 0 p, pteLeaf p,
        pteAllows (walkOf (sv39 0)) p, pteAligned (walkOf (sv39 0)) 1 p, pteMarked (walkOf (sv39 0)) p)) =
      [(false, false, false, true, false), (true, false, false, false, false), (true, true, false, true, true),
       (true, true, true, true, false), (true, true, true, false, true), (true, true, true, true, true),
       (true, true, true, false, true), (true, true, true, true, true)] := by decide

/-- The tables of `sv39` with two more entries, and hardware update of A and D. -/
def adState (leaf other top topOther : Nat) : State :=
  let s := withMem (withMem (withMem (sv39 leaf) 0x80002018 8 other) 0x80001010 8 top) 0x80001018 8 topOther
  { s with cfg := { Config.reference with adUpdate := true } }

/-- What the walk at level `i` makes of the entry it reads and, if its store's checks pass, of the one it compares, `shift`
bytes further on. -/
def comparison (s : State) (i a shift : Nat) : Option (PteUse × Option (Bool × PteUse)) :=
  let w := walkOf s
  let q := a + w.vpn i * w.pteSize
  match pteFetch s w q i false fun t p => (physLoc t p false).bind fun m u => pteRead loadReq w u m with
  | .trap _ _ => none
  | .ok pte t =>
    let m : Mapping := .plain (q + shift)
    some (pteUse t.cfg loadReq w i pte,
      match (pteStorable loadReq w t m).bind fun _ u => pteRead loadReq w u m with
      | .trap _ _ => none
      | .ok now u => some (now == pte, pteUse u.cfg loadReq w i now))

/-- A leaf without A whose store is checked away; that is stored; and that has become another leaf without A, one with it, an
entry that is not valid, and a pointer. -/
theorem witness_HardwareSetsAccessedAndDirty :
    let s := adState 0x2000000F 0 0x20000801 0
    [comparison s 0 0x80002000 0x40000000, comparison s 0 0x80002000 0,
      comparison (adState 0x2000000F 0x2000010F 0x20000801 0) 0 0x80002000 8,
      comparison (adState 0x2000000F 0x200000CF 0x20000801 0) 0 0x80002000 8, comparison s 0 0x80002000 8,
      comparison (adState 0 0 0x2000000F 0x20000801) 1 0x80001000 8] =
      [some (.mark, none), some (.mark, some (true, .mark)), some (.mark, some (false, .mark)),
       some (.mark, some (false, .leaf)), some (.mark, some (false, .fault)), some (.mark, some (false, .table))] ∧
    s.cfg.adUpdate = true ∧ Memory.wf s.mem = true ∧ isIo s.cfg 0x80002010 8 = false ∧ loadReq.spec = false := by decide

/-- Step 7 sets A, and for a store D too, in the leaf (22_translation R448). -/
theorem test_hardware_sets_a_and_d :
    let s := adState 0x2000000F 0 0x20000801 0
    let leaf (acc : Acc) := match translate s { loadReq with acc := acc } with
      | .ok m t => some (m.pa, ofBytes (Memory.readBytes t.mem 0x80002010 8))
      | .trap _ _ => none
    leaf .load = some (0x80000ABC, 0x2000004F) ∧ leaf .store = some (0x80000ABC, 0x200000CF) := by decide

/-- A fence with an address removes the leaf used to translate it, and not the pointers (46_privileged R750). -/
theorem test_fence_removes_a_used_leaf :
    let left (a : Nat) := match translate (sv39 0x200000CF) loadReq with
      | .ok _ t => (tcFence t (fun _ => true) (some a)).tc.map (·.pteAddr)
      | .trap _ _ => []
    left 0x402000 = [0x80001010, 0x80000000] ∧ left 0x403000 = [0x80002010, 0x80001010, 0x80000000] := by decide

/-- Each scheme's first address that is too wide, and Bare; and a walk of Sv39x4 tables that answers. -/
theorem witness_GuestStageFaults :
    (let s (v : Word) : State := { s64 [] with h := { (s64 []).h with hgatp := v } }
     let m (v : Word) := atpMode (s64 []).cfg (hgatpRead (s v))
     m 0 = 0 ∧ (m 0x8000000000080000, 41) ∈ [(1, 34), (8, 41), (9, 50), (10, 59)] ∧ m 0x9000000000080000 = 9 ∧
     m 0xA000000000080000 = 10 ∧ svLevels (m 0x8000000000080000) ≠ 0) ∧
    (let t := sv39 0x200000DF
     let s : State := { t with h := { t.h with hgatp := 0x8000000000080000 } }
     (atpMode s.cfg (hgatpRead s), 41, 3) ∈ [(1, 34, 2), (8, 41, 3), (9, 50, 4), (10, 59, 5)] ∧ 0x402ABC < 2 ^ 41 ∧
     [none, some false, some true].map (fun x => match gStage s loadReq 0x402ABC x with
       | .ok m _ => m.pa
       | .trap _ _ => 0) = [0x80000ABC, 0x80000ABC, 0x80000ABC]) := by decide

theorem witness_ResetState :
    (s64 []).cfg.mbe ≠ .one ∧ State.resetIn (s64 []).cfg = State.resetIn (s64 []).cfg := by decide

/-- The RV32 reset state meets the invariant, and a step from it answers a next state. -/
theorem witness_StepKeepsTheInvariant :
    Inv (State.resetIn Config.reference32) ∧ ∃ t, step (State.resetIn Config.reference32) = .next t :=
  ⟨⟨by decide, rfl, rfl, by decide, by decide, by decide, ⟨by decide, by decide, by decide⟩, by decide⟩, _, rfl⟩

theorem witness_DecodeInvertsEncode :
    (Instr.addi 0 0 0xFFF).wf = true ∧ (Instr.add 0 0 6).wf = true ∧ (Instr.fence 8 3 3 0 31).wf = true := by decide

theorem witness_EncodeInvertsDecode : decode 0x00000033 = some (.add 0 0 0) ∧ decode 0x00200033 = some .ntlP1 := by decide

/-- The word of zeros, one with the high half set, and the word of ones. -/
theorem witness_IllegalWordsTrap :
    (0x00000000 : Inst).extractLsb' 0 16 = 0 ∧ (0xFFFF0000 : Inst).extractLsb' 0 16 = 0 ∧
    (∀ w ∈ [0, 0xFFFF0000, 0xFFFFFFFF], quiet (withMem (s64 []) 0x80000000 4 w) ∧
      fetched (withMem (s64 []) 0x80000000 4 w) = some (.inl (BitVec.ofNat 32 w))) := by
  unfold quiet; decide

end Sys2Proof.Tests
end

section
/-! PROOF. Every step keeps the invariant and the configuration. Both are one relation, `Keeps`, which composes: each
operation of the model is shown to be in it once, and the step is a chain of such operations. -/

namespace Sys2Proof.Machine

/-! ### Bits and fields of a word -/

/-- A field is the number its bits make. -/
theorem getField_eq_toNat (w : Word) (lo len : Nat) : getField w lo len = (w.extractLsb' lo len).toNat := by
  simp [getField, BitVec.extractLsb'_toNat]

/-- A field depends on no bit outside it. -/
theorem getField_congr {w v : Word} {lo len : Nat} (h : ∀ k < len, w.getLsbD (lo + k) = v.getLsbD (lo + k)) :
    getField w lo len = getField v lo len := by
  rw [getField_eq_toNat, getField_eq_toNat]
  refine congrArg _ (BitVec.eq_of_getLsbD_eq fun k hk => ?_)
  simp [hk, h k hk]

theorem getLsbD_merge (mask old new : Word) (k : Nat) :
    (merge mask old new).getLsbD k = if mask.getLsbD k then new.getLsbD k else old.getLsbD k := by
  unfold merge
  rw [BitVec.getLsbD_or, BitVec.getLsbD_and, BitVec.getLsbD_and, BitVec.getLsbD_not]
  by_cases hk : k < 64
  · cases mask.getLsbD k <;> simp [hk]
  · simp [BitVec.getLsbD_of_ge _ k (Nat.le_of_not_lt hk)]

theorem getLsbD_maskIf (b : Bool) (m : Word) (k : Nat) : (maskIf b m).getLsbD k = (b && m.getLsbD k) := by
  cases b <;> simp [maskIf]

theorem toNat_wrap (c : Config) (v : Word) : (wrap c v).toNat = v.toNat % 2 ^ c.xlen := by
  unfold wrap Config.xlen
  split
  · exact (Nat.mod_eq_of_lt v.isLt).symm
  · exact Nat.and_two_pow_sub_one_eq_mod v.toNat 32

/-! ### Multiples of 4 -/

/-- The two low bits are the remainder by 4. -/
theorem aligned_iff_low_bits (v : Word) : v.toNat % 4 = 0 ↔ v.extractLsb' 0 2 = 0 := by
  rw [← BitVec.toNat_inj]
  simp [BitVec.extractLsb'_toNat]

/-- Narrowing to XLEN bits keeps the remainder by 4. -/
theorem wrap_mod_four (c : Config) (v : Word) : (wrap c v).toNat % 4 = v.toNat % 4 := by
  rw [toNat_wrap]
  unfold Config.xlen
  split <;> omega

/-- A value whose high half is zero, at XLEN = 32, is its own narrowing. -/
theorem wrap_of_high_zero {c : Config} {v : Word} (h : c.rv64 = true ∨ v.extractLsb' 32 32 = 0) : wrap c v = v := by
  apply BitVec.eq_of_toNat_eq
  rw [toNat_wrap, Config.xlen]
  split
  · exact Nat.mod_eq_of_lt v.isLt
  · have high := congrArg BitVec.toNat (h.resolve_left ‹_›)
    rw [BitVec.extractLsb'_toNat, Nat.shiftRight_eq_div_pow] at high
    change v.toNat / 2 ^ 32 % 2 ^ 32 = 0 at high
    omega

theorem clear_low_bits_aligned (v : Word) : (v &&& ~~~3).toNat % 4 = 0 := by
  refine (aligned_iff_low_bits _).2 (BitVec.eq_of_getLsbD_eq fun k hk => ?_)
  interval_cases k <;> simp

theorem nextPc_aligned {s : State} (h : s.pc.toNat % 4 = 0) : (nextPc s).toNat % 4 = 0 := by
  unfold nextPc
  rw [wrap_mod_four, BitVec.toNat_add]
  change (s.pc.toNat + 4) % 2 ^ 64 % 4 = 0
  omega

/-- A trap vector's address is a multiple of 4, whatever the register holds (11_csr_machine R127). -/
theorem vector_aligned (c : Config) (tvec : Word) (irq : Bool) (code : Nat) :
    (vector c tvec irq code).toNat % 4 = 0 := by
  have base := clear_low_bits_aligned tvec
  unfold vector
  dsimp only
  split
  · rw [wrap_mod_four, BitVec.toNat_add, BitVec.toNat_ofNat]
    omega
  · rw [wrap_mod_four]
    exact base

/-! ### Legal configurations and modes -/

/-- What the legal parameters say of the modes, and of the two fixed addresses control goes to. -/
theorem valid_modes_and_vectors {c : Config} (h : c.valid = true) :
    (c.hasS = true → c.hasU = true) ∧ (c.hasH = true → c.hasS = true) ∧ c.resetVector.extractLsb' 0 2 = 0 ∧
      c.nmiVector.extractLsb' 0 2 = 0 ∧ (c.rv64 = true ∨ c.resetVector.extractLsb' 32 32 = 0) := by
  simp only [Config.valid, Bool.and_eq_true, Bool.or_eq_true, Bool.not_eq_true', beq_iff_eq] at h
  grind

/-- The hart has the privilege mode. -/
def privLegal (c : Config) (p : Priv) : Prop := (p = .S → c.hasS = true) ∧ (p = .U → c.hasU = true)

theorem modeLegal_iff (s : State) :
    modeLegal s ↔ privLegal s.cfg s.priv ∧ (s.virt = true → s.cfg.hasH = true ∧ s.priv ≠ .M) := by
  simp [modeLegal, privLegal, and_assoc]

theorem Inv.privLegal {s : State} (i : Inv s) : privLegal s.cfg s.priv := ((modeLegal_iff s).1 i.mode).1

theorem Inv.hasH_of_virt {s : State} (i : Inv s) (h : s.virt = true) : s.cfg.hasH = true :=
  (((modeLegal_iff s).1 i.mode).2 h).1

theorem privLegal_machine (c : Config) : privLegal c .M := ⟨nofun, nofun⟩

theorem privLegal_supervisor {c : Config} (h : c.hasS = true) : privLegal c .S := ⟨fun _ => h, nofun⟩

theorem privLegal_leastPriv (c : Config) : privLegal c (leastPriv c) := by
  unfold leastPriv
  split
  exacts [⟨nofun, fun _ => ‹_›⟩, privLegal_machine c]

/-- The modes SRET can return to, where it is implemented. -/
theorem privLegal_spp {c : Config} (hv : c.valid = true) (h : c.hasS = true) (b : Bool) :
    privLegal c (if b then .S else .U) := by
  obtain ⟨hasU_of_hasS, -⟩ := valid_modes_and_vectors hv
  cases b
  exacts [⟨nofun, fun _ => hasU_of_hasS h⟩, privLegal_supervisor h]

/-- A mode the hart has encodes as a legal MPP (R116). -/
theorem mppLegal_code {c : Config} {p : Priv} (h : privLegal c p) : mppLegal c p.code = true := by
  cases p
  case U => simp [mppLegal, Priv.code, h.2 rfl]
  case S => simp [mppLegal, Priv.code, h.1 rfl]
  case M => rfl

/-- A legal MPP stands for a mode the hart has. -/
theorem privLegal_ofCode {c : Config} {n : Nat} (h : mppLegal c n = true) : privLegal c (Priv.ofCode n) := by
  unfold mppLegal at h
  unfold privLegal Priv.ofCode
  grind

/-! ### The field MPP of mstatus, bits 12:11 -/

/-- Both bits of MPP are `b` in the word, a mask for one. -/
def mppBits (w : Word) (b : Bool) : Prop := ∀ k, 11 ≤ k → k < 13 → w.getLsbD k = b

theorem mppBits_of_bits {w : Word} {b : Bool} (h : w.getLsbD 11 = b ∧ w.getLsbD 12 = b) : mppBits w b := by
  intro k h1 h2
  interval_cases k
  exacts [h.1, h.2]

theorem mppBits_field : mppBits (fieldMask MPP 2) true := mppBits_of_bits (by decide)

/-- MPP depends on its own two bits only. -/
theorem mppField_congr {w v : Word} (h : ∀ k, 11 ≤ k → k < 13 → w.getLsbD k = v.getLsbD k) :
    getField w MPP 2 = getField v MPP 2 :=
  getField_congr fun k hk => h (11 + k) (by omega) (by omega)

theorem mppField_setBit (w : Word) {i : Nat} (b : Bool) (hi : i < 64 ∧ i ≠ 11 ∧ i ≠ 12) :
    getField (setBit w i b) MPP 2 = getField w MPP 2 :=
  mppField_congr fun k _ _ => by rw [getLsbD_setBit _ _ _ _ hi.1, if_neg (by omega)]

/-- A merge takes the whole field from the new value, or leaves it. -/
theorem mppField_merge {mask : Word} {b : Bool} (h : mppBits mask b) (old new : Word) :
    getField (merge mask old new) MPP 2 = getField (if b then new else old) MPP 2 :=
  mppField_congr fun k h1 h2 => by cases b <;> simp [getLsbD_merge, h k h1 h2]

theorem mppField_setField (w : Word) (p : Priv) : getField (setField w MPP 2 p.code) MPP 2 = p.code := by
  rw [setField, mppField_merge mppBits_field, if_pos rfl]
  cases p <;> decide

theorem mppBits_mstatusMask (c : Config) : mppBits (mstatusMask c) true := by
  intro k h1 h2
  simp [mstatusMask, mppBits_field k h1 h2]

theorem mppBits_mstatusFixed (c : Config) : mppBits (mstatusFixed c) false := by
  intro k h1 h2
  have uxl := mppBits_of_bits (w := 2 <<< UXL) (b := false) (by decide) k h1 h2
  have sxl := mppBits_of_bits (w := 2 <<< SXL) (b := false) (by decide) k h1 h2
  have ube := mppBits_of_bits (w := bitMask UBE) (b := false) (by decide) k h1 h2
  have sbe := mppBits_of_bits (w := bitMask SBE) (b := false) (by decide) k h1 h2
  have mbe := mppBits_of_bits (w := bitMask MBE) (b := false) (by decide) k h1 h2
  simp only [mstatusFixed, EndianBit.fixed, BitVec.getLsbD_or, getLsbD_maskIf, uxl, sxl, ube, sbe, mbe, Bool.and_false,
    Bool.or_false]

/-- sstatus has no MPP (12_csr_supervisor R200). -/
theorem mppBits_sstatusMask (c : Config) : mppBits (sstatusMask c) false := by
  intro k h1 h2
  have fixed := mppBits_of_bits (b := false)
    (w := bitMask SIE ||| bitMask SPIE ||| bitMask UBE ||| bitMask SPP ||| bitMask SUM ||| bitMask MXR) (by decide) k h1 h2
  have uxl := mppBits_of_bits (w := fieldMask UXL 2) (b := false) (by decide) k h1 h2
  rw [sstatusMask, BitVec.getLsbD_or, getLsbD_maskIf, fixed, uxl, Bool.and_false, Bool.or_false]

/-- A read of mstatus sees MPP as it is stored. -/
theorem mppField_mstatusRead (s : State) : getField (mstatusRead s) MPP 2 = getField s.m.mstatus MPP 2 :=
  mppField_congr fun k h1 h2 => by
    simp [mstatusRead, mppBits_mstatusMask s.cfg k h1 h2, mppBits_mstatusFixed s.cfg k h1 h2]

/-! ### The relation -/

/-- `t` is in the configuration of `s`, and meets the invariant if `s` does. -/
structure Keeps (s t : State) : Prop where
  cfg : t.cfg = s.cfg
  inv : Inv s → Inv t

theorem Keeps.refl {s : State} : Keeps s s := ⟨rfl, id⟩

theorem Keeps.trans {s t u : State} (h : Keeps s t) (k : Keeps t u) : Keeps s u := ⟨k.cfg.trans h.cfg, k.inv ∘ h.inv⟩

theorem keeps_ite {s t u : State} {p : Prop} [Decidable p] (h : Keeps s t) (k : Keeps s u) :
    Keeps s (if p then t else u) := by
  split
  exacts [h, k]

/-- What needs the invariant of `s` for the step to `t` may assume it. -/
theorem Keeps.of_inv {s t : State} (hc : t.cfg = s.cfg) (h : Inv s → Keeps s t) : Keeps s t :=
  ⟨hc, fun i => (h i).inv i⟩

/-- All that the invariant speaks of. -/
def invPart (s : State) : Config × List Host.Cell × Vector Word 32 × Word × Priv × Bool × Word :=
  (s.cfg, s.mem, s.regs, s.pc, s.priv, s.virt, s.m.mstatus)

/-- A change of anything else keeps it. -/
theorem keeps_of_invPart {s t : State} (h : invPart t = invPart s) : Keeps s t := by
  simp only [invPart, Prod.mk.injEq] at h
  obtain ⟨hcfg, hmem, hregs, hpc, hpriv, hvirt, hmstatus⟩ := h
  refine ⟨hcfg, fun i => ?_⟩
  constructor <;> simp only [modeLegal, hcfg, hmem, hregs, hpc, hpriv, hvirt, hmstatus]
  exacts [i.cfg, i.mem, i.x0, i.width, i.pcAligned, i.pcWidth, i.mode, i.mpp]

/-! ### One field of the invariant at a time -/

theorem keeps_mem {s : State} {mem : List Host.Cell} (h : Memory.wf s.mem = true → Memory.wf mem = true) :
    Keeps s { s with mem := mem } :=
  ⟨rfl, fun i => { i with mem := h i.mem }⟩

theorem keeps_mstatus {s : State} {w : Word}
    (h : Inv s → mppLegal s.cfg (getField w MPP 2) = true) :
    Keeps s { s with m := { s.m with mstatus := w } } :=
  ⟨rfl, fun i => { i with mpp := h i }⟩

theorem keeps_setMode {s : State} {p : Priv} {v : Bool}
    (h : Inv s → privLegal s.cfg p ∧ (v = true → s.cfg.hasH = true ∧ p ≠ .M)) : Keeps s (setMode s p v) :=
  ⟨rfl, fun i => { i with mode := (modeLegal_iff _).2 (h i) }⟩

/-- pc goes to a multiple of 4 (10_state R57). -/
theorem keeps_setPc {s : State} {t : Word} (h : t.toNat % 4 = 0) : Keeps s (setPc s t) :=
  ⟨rfl, fun i => { i with pcAligned := (wrap_mod_four s.cfg t).trans h, pcWidth := wrap_wrap s.cfg t }⟩

/-- A register write stays within XLEN bits and spares x0 (10_state R50, R51). -/
theorem keeps_wX (s : State) (rd : Reg) (v : Word) : Keeps s (wX s rd v) := by
  unfold wX
  split
  · exact .refl
  · rename_i hrd
    have hne : rd.toNat ≠ 0 := fun k => hrd (BitVec.eq_of_toNat_eq k)
    refine ⟨rfl, fun i => { i with x0 := ?_, width := fun r => ?_ }⟩
    · exact (Vector.getElem_set_ne rd.isLt (by decide) hne).trans i.x0
    · rw [Vector.get_eq_getElem, Vector.getElem_set]
      split
      exacts [wrap_wrap _ _, i.width r]

/-! ### Updates of mstatus -/

/-- A bit of mstatus outside MPP. -/
theorem Keeps.setMstatus {s t : State} {i : Nat} {b : Bool} (h : Keeps s t)
    (hi : i < 64 ∧ i ≠ 11 ∧ i ≠ 12 := by decide) : Keeps s (setMstatus t i b) :=
  h.trans <| keeps_mstatus fun k => by rw [mppField_setBit _ b hi]; exact k.mpp

theorem keeps_setMpp {s : State} {p : Priv} (h : Inv s → privLegal s.cfg p) : Keeps s (setMpp s p) :=
  keeps_mstatus fun i => by rw [mppField_setField]; exact mppLegal_code (h i)

theorem keeps_setHstatus (s : State) (i : Nat) (b : Bool) : Keeps s (setHstatus s i b) := keeps_of_invPart rfl

/-- A CSR write of mstatus leaves MPP legal (R116): an illegal value is not taken. -/
theorem keeps_mstatusWrite (s : State) {mask : Word} {b : Bool} (v : Word) (h : mppBits mask b) :
    Keeps s (mstatusWrite s mask v) := by
  have written : mppBits (mask &&& mstatusMask s.cfg) b := fun k h1 h2 => by
    rw [BitVec.getLsbD_and, h k h1 h2, mppBits_mstatusMask s.cfg k h1 h2, Bool.and_true]
  refine keeps_mstatus fun i => ?_
  rw [mppField_merge written]
  cases b
  case false => exact i.mpp
  case true =>
    by_cases legal : mppLegal s.cfg (getField v MPP 2) = true
    · simp [legal]
    · simpa [legal, mppField_merge mppBits_field] using i.mpp

/-! ### Accesses -/

theorem Touched.keeps {s t : State} (h : Touched s t) : Keeps s t :=
  (keeps_mem h.wf).trans <| keeps_of_invPart <| by
    simp [invPart, h.cfg, h.regs, h.pc, h.priv, h.virt, h.m]

/-- The state an operation leaves, whether it answers or traps. -/
def Res.state {α : Type} : Res α → State
  | .ok _ t => t
  | .trap _ t => t

theorem Res.Touches.keeps {α : Type} {s : State} {r : Res α} (h : Res.Touches s r) : Keeps s r.state := by
  cases r
  exacts [(h.1 _ _ rfl).keeps, (h.2 _ _ rfl).keeps]

theorem keeps_bind {α β : Type} {s : State} {r : Res α} {f : α → State → Res β} (h : Keeps s r.state)
    (k : ∀ a t, Keeps t (f a t).state) : Keeps s (r.bind f).state := by
  cases r
  exacts [h.trans (k _ _), h]

theorem keeps_setResv (s : State) (v : Option Reservation) : Keeps s (setResv s v) := keeps_of_invPart rfl

theorem keeps_loadReserved (s : State) (ea : Word) (n : Nat) : Keeps s (loadReserved s ea n).state :=
  keeps_bind (access_touches ..).keeps fun _ _ =>
    keeps_bind (readParts_touches ..).keeps fun _ _ => keeps_setResv ..

theorem keeps_storeConditional (s : State) (ea : Word) (n : Nat) (v : Word) :
    Keeps s (storeConditional s ea n v).state := by
  refine keeps_bind (access_touches ..).keeps fun pas u => ?_
  have kept : Keeps u (spurious u).2 := by
    unfold spurious
    split
    exacts [(touched_drawn u).keeps, .refl]
  generalize spurious u = sp at kept
  split
  · obtain ⟨fails, w⟩ := sp
    cases fails
    · exact kept.trans (keeps_bind (writeParts_touches ..).keeps fun _ _ => keeps_setResv ..)
    · exact kept.trans (keeps_setResv ..)
  · exact keeps_setResv ..

/-! ### Retirement, jumps and trap entries -/

theorem keeps_retireTo {s : State} {t : Word} (h : t.toNat % 4 = 0) : Keeps s (retireTo s t) :=
  (keeps_setPc h).trans <| keeps_of_invPart <| by simp [invPart, retireTo, retireCount_m]

theorem keeps_retire (s : State) : Keeps s (retire s) :=
  .of_inv (retireTo_cfg ..) fun i => keeps_retireTo (nextPc_aligned i.pcAligned)

theorem keeps_jump (s : State) (rd : Reg) (t : Word) : Keeps s (jump s rd t).state := by
  obtain ⟨ht, e⟩ | ⟨-, e⟩ := jump_cases s rd t <;> rw [e]
  exacts [(keeps_wX ..).trans (keeps_retireTo ((aligned_iff_low_bits _).2 ht)), .refl]

theorem keeps_branch (s : State) (cond : Bool) (imm : BitVec 12) : Keeps s (branch s cond imm).state := by
  obtain ⟨-, e⟩ | ⟨-, ht, e⟩ | ⟨-, -, e⟩ := branch_cases s cond imm <;> rw [e]
  exacts [keeps_retire s, keeps_retireTo ((aligned_iff_low_bits _).2 ht), .refl]

/-- A trap into M-mode saves the mode it left, a legal one, in MPP. -/
theorem keeps_enterM (s : State) (cause tval tval2 tinst : Word) (gva : Bool) :
    Keeps s (enterM s cause tval tval2 tinst gva) := by
  have status : Keeps s (setMstatus (setMstatus (saveM s cause tval) MPIE (mstatusBit s MIE)) MIE false) :=
    (keeps_of_invPart rfl : Keeps s (saveM s cause tval)).setMstatus.setMstatus
  have saved := status.trans (keeps_setMpp (p := s.priv) Inv.privLegal)
  refine Keeps.trans ?_ (keeps_setMode fun _ => ⟨privLegal_machine _, nofun⟩)
  split
  · exact (saved.setMstatus (b := s.virt)).setMstatus (b := gva) |>.trans (keeps_of_invPart rfl)
  · exact saved

theorem keeps_enterS {s : State} (h : s.cfg.hasS = true) (cause tval tval2 tinst : Word) (gva : Bool) :
    Keeps s (enterS s cause tval tval2 tinst gva) := by
  have saved : Keeps s (setMstatus (setMstatus (setMstatus (saveS s cause tval) SPIE (mstatusBit s SIE)) SIE false) SPP
      (s.priv == .S)) :=
    (keeps_of_invPart rfl : Keeps s (saveS s cause tval)).setMstatus.setMstatus.setMstatus
  have inner {u : State} (k : Keeps s u) : Keeps s (setMode u .S false) :=
    k.trans (keeps_setMode fun _ => ⟨privLegal_supervisor (k.cfg ▸ h), nofun⟩)
  unfold enterS
  dsimp only
  refine inner ?_
  split
  · split <;> exact saved.trans (keeps_of_invPart rfl)
  · exact saved

theorem keeps_enterVS {s : State} (h : s.cfg.hasS = true) (cause tval : Word) : Keeps s (enterVS s cause tval) := by
  have mode : Keeps s (setMode s .S s.virt) :=
    keeps_setMode fun i => ⟨privLegal_supervisor h, fun hv => ⟨i.hasH_of_virt hv, nofun⟩⟩
  exact mode.trans (keeps_of_invPart rfl)

/-- A trap into a mode the hart has. -/
theorem keeps_takeTrap {s : State} {d : Dest} (h : d ≠ .M → s.cfg.hasS = true) (irq : Bool) (code : Nat)
    (tval tval2 tinst : Word) (gva : Bool) : Keeps s (takeTrap s irq code d tval tval2 tinst gva) := by
  cases d
  case M => exact (keeps_enterM ..).trans (keeps_setPc (vector_aligned ..))
  case S => exact (keeps_enterS (h nofun) ..).trans (keeps_setPc (vector_aligned ..))
  case VS => exact (keeps_enterVS (h nofun) ..).trans (keeps_setPc (vector_aligned ..))

/-- Exceptions are delegated only where there is an S-mode (60_exceptions R861). -/
theorem excDest_hasS {s : State} {code : Nat} (h : excDest s code ≠ .M) : s.cfg.hasS = true := by
  unfold excDest at h
  by_contra hs
  simp [hs] at h

theorem keeps_raise (s : State) (inst : Inst) (e : Exc) : Keeps s (raise s inst e) := keeps_takeTrap excDest_hasS ..

/-! ### Trap returns -/

theorem keeps_returnReservation (s : State) : Keeps s (returnReservation s) := keeps_of_invPart (by simp [invPart])

/-- The end of a return: the new mode, a legal one, and a pc whose low bits are cleared. -/
theorem keeps_returnTo {s : State} {p : Priv} {v : Bool} (pc : Word)
    (h : Inv s → privLegal s.cfg p ∧ (v = true → s.cfg.hasH = true ∧ p ≠ .M)) :
    Keeps s (retireTo (returnReservation (setMode s p v)) (pc &&& ~~~3)) :=
  (keeps_setMode h).trans <| (keeps_returnReservation _).trans (keeps_retireTo (clear_low_bits_aligned pc))

/-- MRET goes to the mode MPP names, which is legal, and leaves the least one in MPP. -/
theorem keeps_returnM (s : State) : Keeps s (returnM s) := by
  have status : Keeps s (setMpp (setMstatus (setMstatus s MIE (mstatusBit s MPIE)) MPIE true) (leastPriv s.cfg)) :=
    Keeps.refl.setMstatus.setMstatus.trans (keeps_setMpp fun _ => privLegal_leastPriv _)
  refine .of_inv (by simp [returnM, apply_ite State.cfg]) fun i => ?_
  have legal : privLegal s.cfg (mpp s) := privLegal_ofCode (by rw [mppField_mstatusRead]; exact i.mpp)
  have returned {u : State} (k : Keeps s u) : Keeps s (retireTo (returnReservation
      (setMode u (mpp s) (s.cfg.hasH && mpp s != .M && mstatusBit s MPV))) (s.m.mepc &&& ~~~3)) :=
    k.trans <| keeps_returnTo _ fun _ => by rw [k.cfg]; exact ⟨legal, by simp_all⟩
  have mpv : Keeps s (if s.cfg.hasH then setMstatus _ MPV false else _) :=
    keeps_ite status.setMstatus status
  exact returned (keeps_ite mpv mpv.setMstatus)

/-- SRET with V = 0 goes to S or U, which the hart has where SRET is implemented. -/
theorem keeps_returnS {s : State} (h : s.cfg.hasS = true) : Keeps s (returnS s) := by
  have status : Keeps s (setMstatus (setMstatus (setMstatus s SIE (mstatusBit s SPIE)) SPIE true) SPP false) :=
    Keeps.refl.setMstatus.setMstatus.setMstatus
  have spv : Keeps s (if s.cfg.hasH then setHstatus _ SPV false else _) :=
    keeps_ite (status.trans (keeps_setHstatus ..)) status
  have mprv := spv.setMstatus (i := MPRV) (b := false)
  refine mprv.trans (keeps_returnTo _ fun i => ?_)
  rw [mprv.cfg]
  have hv := mprv.cfg ▸ i.cfg
  exact ⟨privLegal_spp hv h _, fun k => ⟨by simp_all, by split <;> nofun⟩⟩

/-- SRET with V = 1: there is an S-mode, as there is a hypervisor. -/
theorem keeps_returnVS {s : State} (h : s.cfg.hasS = true) : Keeps s (returnVS s) := by
  have status : Keeps s (setVsstatus (setVsstatus (setVsstatus s SIE (vsstatusBit s SPIE)) SPIE true) SPP false) :=
    keeps_of_invPart rfl
  exact status.trans <| keeps_returnTo _ fun i =>
    ⟨privLegal_spp i.cfg h _, fun k => ⟨i.hasH_of_virt k, by split <;> nofun⟩⟩

/-! ### CSR instructions and fences -/

theorem keeps_setPmp (s : State) (p : Pmp) : Keeps s (setPmp s p) :=
  keeps_ite .refl (keeps_ite (keeps_of_invPart rfl) (keeps_of_invPart rfl))

theorem keeps_setMenvcfg (s : State) (v : Word) : Keeps s (setMenvcfg s v) :=
  keeps_ite (keeps_of_invPart rfl) (keeps_ite (keeps_of_invPart rfl) (keeps_of_invPart rfl))

theorem keeps_setHvip (s : State) (mask v : Word) : Keeps s (setHvip s mask v) := keeps_of_invPart rfl

theorem keeps_setMip (s : State) (v : Word) : Keeps s (setMip s v) := by
  have written : Keeps s (if s.cfg.hasS then { s with m := { s.m with mip := merge 0x222 s.m.mip v } } else s) :=
    keeps_ite (keeps_of_invPart rfl) .refl
  exact keeps_ite (written.trans (keeps_setHvip ..)) written

theorem keeps_hpmWrite (s : State) (n : Nat) (v : Word) : Keeps s (csrWrite.hpmWrite s n v) := by
  unfold csrWrite.hpmWrite
  split
  exacts [keeps_ite (keeps_of_invPart rfl) .refl, .refl]

/-- A CSR write reaches what the invariant speaks of through mstatus only. -/
theorem keeps_csrWrite (s : State) (r : Csr) (v : Word) : Keeps s (csrWrite s r v) := by
  cases r with
  | sstatus => exact keeps_mstatusWrite s v (mppBits_sstatusMask s.cfg)
  | mstatus =>
    have whole : mppBits (if s.cfg.rv64 then fieldMask 0 64 else fieldMask 0 32) true := by
      split <;> exact mppBits_of_bits (by decide)
    exact keeps_mstatusWrite s v whole
  | mstatush => exact keeps_mstatusWrite s _ (mppBits_of_bits (b := false) (by decide))
  | pmpcfg | pmpaddr => exact keeps_setPmp ..
  | menvcfg | menvcfgh => exact keeps_setMenvcfg ..
  | mip => exact keeps_setMip s v
  | sip => exact keeps_ite (keeps_of_invPart rfl) .refl
  | vsip => exact keeps_ite (keeps_setHvip ..) .refl
  | mtval => exact keeps_ite (keeps_of_invPart rfl) .refl
  | mhpmcounter | mhpmcounterh => exact keeps_hpmWrite ..
  | mhpmevent =>
    unfold csrWrite
    dsimp only
    split
    exacts [keeps_ite (keeps_of_invPart rfl) .refl, .refl]
  | _ => exact keeps_of_invPart rfl

theorem keeps_csrOp (i : Instr) (s : State) (rd : Reg) (addr : BitVec 12) (write : Bool) (new : Word → Word) :
    Keeps s (csrOp i s rd addr write new).state := by
  unfold csrOp
  split
  · exact .refl
  · exact .refl
  · exact (keeps_retire s).trans <|
      (keeps_ite (keeps_csrWrite ..) .refl).trans (keeps_wX ..)

theorem keeps_sfence (s : State) (rs1 rs2 : Reg) : Keeps s (sfence s rs1 rs2) := keeps_of_invPart (by simp [invPart])

theorem keeps_hfenceV (s : State) (rs1 rs2 : Reg) : Keeps s (hfenceV s rs1 rs2) := keeps_of_invPart (by simp [invPart])

theorem keeps_hfenceG (s : State) (rs1 rs2 : Reg) : Keeps s (hfenceG s rs1 rs2) := keeps_of_invPart (by simp [invPart])

theorem keeps_forgetStale (s : State) : Keeps s { s with istale := [] } := keeps_of_invPart rfl

/-! ### Every instruction -/

/-- Of the next state an outcome may give: it is kept. -/
def keepsNext (s : State) (o : Out) : Prop := ∀ t, o = .next t → Keeps s t

theorem keepsNext_next {s t : State} (h : Keeps s t) : keepsNext s (.next t) := by
  rintro _ ⟨⟩
  exact h

/-- An instruction keeps what its body does: its exception is taken by a trap, and so is that of one not implemented. -/
theorem keeps_run {i : Instr} {s : State} {body : State → Res Unit}
    (h : i.available s.cfg = true → Keeps s (body s).state) : keepsNext s (run i s body) := by
  intro t ht
  cases hi : i.available s.cfg
  case false =>
    rw [run_unavailable hi] at ht
    cases ht
    exact keeps_raise ..
  case true =>
    have kept := h hi
    rw [run_available hi, conclude_eq_next] at ht
    obtain e | ⟨x, u, e, rfl⟩ := ht <;> rw [e] at kept
    exacts [kept, kept.trans (keeps_raise ..)]

theorem keeps_permit {i : Instr} {s : State} {d : Option Denied} {body : Res Unit} (h : Keeps s body.state) :
    Keeps s (permit i s d body).state := by
  unfold permit
  split
  exacts [h, .refl, .refl]

theorem keeps_writeBack (s : State) (rd : Reg) (v : Word) : Keeps s (writeBack s rd v).state :=
  (keeps_wX ..).trans (keeps_retire _)

theorem keeps_loadTo (s : State) (via : Via) (u : PmaUse) (rd : Reg) (ea : Word) (n : Nat) (signed : Bool) :
    Keeps s (loadTo s via u rd ea n signed).state :=
  keeps_bind (memRead_touches ..).keeps fun _ _ => keeps_writeBack ..

theorem keeps_storeFrom (s : State) (via : Via) (ea : Word) (n : Nat) (v : Word) :
    Keeps s (storeFrom s via ea n v).state :=
  keeps_bind (memWrite_touches ..).keeps fun _ _ => keeps_retire _

theorem keeps_lrTo (s : State) (rd : Reg) (ea : Word) (n : Nat) : Keeps s (lrTo s rd ea n).state :=
  keeps_bind (keeps_loadReserved ..) fun _ _ => keeps_writeBack ..

theorem keeps_scTo (s : State) (rd : Reg) (ea : Word) (n : Nat) (v : Word) : Keeps s (scTo s rd ea n v).state :=
  keeps_bind (keeps_storeConditional ..) fun _ _ => keeps_writeBack ..

theorem keeps_amoTo (s : State) (rd : Reg) (op : AmoOp) (ea : Word) (n : Nat) (src : Word) :
    Keeps s (amoTo s rd op ea n src).state :=
  keeps_bind (amo_touches ..).keeps fun _ _ => keeps_writeBack ..

/-- Instructions by what their bodies are built of. -/
theorem keeps_exec (i : Instr) (s : State) : keepsNext s (exec i s) := by
  unfold exec
  cases i with
  | lui | auipc | addi | slti | sltiu | xori | ori | andi | slli | srli | srai | add | sub | sll | slt | sltu | xor | srl
  | sra | or | and | addiw | slliw | srliw | sraiw | addw | subw | sllw | srlw | sraw | mul | mulh | mulhsu | mulhu | div
  | divu | rem | remu | mulw | divw | divuw | remw | remuw => exact keeps_run fun _ => keeps_writeBack ..
  | jal | jalr => exact keeps_run fun _ => keeps_jump ..
  | beq | bne | blt | bge | bltu | bgeu => exact keeps_run fun _ => keeps_branch ..
  | lb | lh | lw | lbu | lhu | ld | lwu => exact keeps_run fun _ => keeps_loadTo ..
  | sb | sh | sw | sd => exact keeps_run fun _ => keeps_storeFrom ..
  | lrW | lrD => exact keeps_run fun _ => keeps_lrTo ..
  | scW | scD => exact keeps_run fun _ => keeps_scTo ..
  | amoswapW | amoaddW | amoxorW | amoandW | amoorW | amominW | amomaxW | amominuW | amomaxuW | amoswapD | amoaddD
  | amoxorD | amoandD | amoorD | amominD | amomaxD | amominuD | amomaxuD => exact keeps_run fun _ => keeps_amoTo ..
  | nop | fence | fenceTso | pause | ntlP1 | ntlPall | ntlS1 | ntlAll => exact keeps_run fun _ => keeps_retire s
  | fenceI => exact keeps_run fun _ => (keeps_forgetStale s).trans (keeps_retire _)
  | ecall | ebreak => exact keeps_run fun _ => .refl
  | csrrw | csrrs | csrrc | csrrwi | csrrsi | csrrci => exact keeps_run fun _ => keeps_csrOp ..
  | mret => exact keeps_run fun _ => keeps_permit (keeps_returnM s)
  | sret =>
    refine keeps_run fun h => keeps_permit ?_
    have hasS : s.cfg.hasS = true := (Bool.and_eq_true_iff.1 h).1
    exact keeps_ite (keeps_returnVS hasS) (keeps_returnS hasS)
  | wfi => exact keeps_run fun _ => keeps_permit ((keeps_retire s).trans (keeps_of_invPart rfl))
  | sfenceVma | sinvalVma => exact keeps_run fun _ => keeps_permit ((keeps_sfence ..).trans (keeps_retire _))
  | sfenceWInval | sfenceInvalIr => exact keeps_run fun _ => keeps_permit (keeps_retire s)
  | hfenceVvma | hinvalVvma => exact keeps_run fun _ => keeps_permit ((keeps_hfenceV ..).trans (keeps_retire _))
  | hfenceGvma | hinvalGvma => exact keeps_run fun _ => keeps_permit ((keeps_hfenceG ..).trans (keeps_retire _))
  | hlvB | hlvBu | hlvH | hlvHu | hlvxHu | hlvW | hlvWu | hlvxWu | hlvD =>
    exact keeps_run fun _ => keeps_permit (keeps_loadTo ..)
  | hsvB | hsvH | hsvW | hsvD => exact keeps_run fun _ => keeps_permit (keeps_storeFrom ..)

theorem keeps_runInstr (s : State) : keepsNext s (runInstr s) := by
  have fetched := (fetch_touches s).keeps
  unfold runInstr
  split <;> rename_i e <;> rw [e] at fetched
  · split
    · exact fun t ht => fetched.trans (keeps_exec _ _ t ht)
    · exact keepsNext_next (fetched.trans (keeps_raise ..))
  · exact keepsNext_next (fetched.trans (keeps_raise ..))

/-! ### The environment -/

theorem keeps_dropReservation (s : State) (ends : Reservation → Nat → Bool) (addrs : List Nat) :
    Keeps s (dropReservation s ends addrs) :=
  dropReservation_resv s ends addrs ▸ keeps_of_invPart rfl

theorem keeps_hartStores (s : State) (e : Input) : Keeps s (hartStores s e) :=
  (keeps_dropReservation ..).trans (touched_storeCells ..).keeps

theorem keeps_deviceStores (s : State) (e : Input) : Keeps s (deviceStores s e) :=
  (keeps_dropReservation ..).trans (touched_storeCells ..).keeps

theorem keeps_specWalk (s : State) (k : SpecWalk) : Keeps s (specWalk s k) := by
  have walked : Keeps s (specTranslate s k).state := by
    unfold specTranslate
    split
    exacts [(gStage_touches ..).keeps, (translate_touches ..).keeps]
  unfold specWalk
  split
  · split <;> rename_i e <;> rw [e] at walked <;> exact walked
  · exact .refl

/-- Reset goes to the reset vector, a multiple of 4 within XLEN bits, in M-mode (70_reset_and_hazards R930). -/
theorem keeps_resetHart (s : State) : Keeps s (resetHart s) := by
  have status : Keeps s (setMstatus (setMstatus (setMstatus s MIE false) MPRV false) MBE false) :=
    Keeps.refl.setMstatus.setMstatus.setMstatus
  refine ⟨rfl, fun i => ?_⟩
  obtain ⟨-, -, aligned, -, narrow⟩ := valid_modes_and_vectors i.cfg
  exact { status.inv i with
    pcAligned := (aligned_iff_low_bits _).2 aligned
    pcWidth := wrap_of_high_zero narrow
    mode := (modeLegal_iff _).2 ⟨privLegal_machine _, nofun⟩ }

theorem keeps_applyInput (s : State) (e : Input) : Keeps s (applyInput s e) := by
  have walks (l : List SpecWalk) (t : State) : Keeps t (l.foldl specWalk t) := by
    induction l generalizing t with
    | nil => exact .refl
    | cons k l ih => exact (keeps_specWalk t k).trans (ih _)
  have platform : Keeps s (setPlatform (deviceStores (hartStores s e) e) e) :=
    (keeps_hartStores s e).trans <| (keeps_deviceStores _ e).trans (keeps_of_invPart rfl)
  exact (keeps_ite (platform.trans (keeps_resetHart _)) platform).trans (walks _ _)

theorem keeps_inputs (s : State) (rest : List Input) : Keeps s { s with inputs := rest } := keeps_of_invPart rfl

theorem keeps_consume (s : State) : Keeps s (consume s) := by
  unfold consume
  split
  exacts [.refl, (keeps_inputs s _).trans (keeps_applyInput ..)]

/-! ### Boundaries -/

theorem keeps_takeNmi (s : State) : Keeps s (takeNmi s) := by
  refine .of_inv (by simp [takeNmi]) fun i => ?_
  obtain ⟨-, -, -, aligned, -⟩ := valid_modes_and_vectors i.cfg
  exact (keeps_enterM ..).trans <|
    (keeps_setPc ((aligned_iff_low_bits _).2 aligned)).trans (keeps_of_invPart rfl)

/-- An interrupt is taken below M-mode only where there is an S-mode (R854). -/
theorem takeable_hasS {s : State} {d : Dest} {i : Nat} (hv : s.cfg.valid = true) (h : takeable s d i = true)
    (hd : d ≠ .M) : s.cfg.hasS = true := by
  obtain ⟨-, hasS_of_hasH, -⟩ := valid_modes_and_vectors hv
  cases d
  case M => exact absurd rfl hd
  case S => simp_all [takeable]
  case VS => exact hasS_of_hasH (by simp_all [takeable])

theorem pendingInterrupt_takeable {s : State} {i : Nat} {d : Dest} (h : pendingInterrupt s = some (i, d)) :
    takeable s d i = true := by
  unfold pendingInterrupt at h
  split at h
  · cases h; exact List.find?_some ‹_›
  split at h
  · cases h; exact List.find?_some ‹_›
  split at h
  · cases h; exact List.find?_some ‹_›
  · cases h

theorem keeps_boundaryTrap {s t : State} (h : boundaryTrap s = some t) : Keeps s t := by
  unfold boundaryTrap at h
  split at h
  · cases h
    exact keeps_takeNmi s
  split at h <;> cases h
  rename_i pending
  refine .of_inv (by simp [takeInterrupt]) fun inv => ?_
  exact (keeps_takeTrap (takeable_hasS inv.cfg (pendingInterrupt_takeable pending)) ..).trans (keeps_of_invPart rfl)

theorem keeps_wake (s : State) : Keeps s (wake s).2 := by
  have unstalled : Keeps s (unstall s) := keeps_of_invPart rfl
  have stalled : Keeps s (drawn s) := keeps_of_invPart rfl
  unfold wake
  split
  · exact .refl
  split
  · exact unstalled
  split
  exacts [stalled.trans (keeps_of_invPart rfl), stalled]

theorem keeps_tick (start s : State) : Keeps s (tick start s) := keeps_of_invPart rfl

/-! ### The step -/

theorem keeps_step (s : State) : keepsNext s (step s) := by
  have consumed := keeps_consume s
  have woken := consumed.trans (keeps_wake (consume s))
  unfold step
  dsimp only
  split
  · exact keepsNext_next (consumed.trans <| (keeps_boundaryTrap ‹_›).trans (keeps_tick ..))
  split <;> rename_i e <;> rw [e] at woken
  · rintro t ht
    cases hr : runInstr _ <;> rw [hr] at ht <;> cases ht
    exact (woken.trans (keeps_runInstr _ _ hr)).trans (keeps_tick ..)
  · exact keepsNext_next (woken.trans (keeps_tick ..))

/-- Settles O56: every operation a step is made of is in `Keeps`, whose two fields are the two halves of the statement. -/
theorem stepKeepsTheInvariant : Obligations.StepKeepsTheInvariant :=
  ⟨fun s t i h => (keeps_step s t h).inv i, fun s t h => (keeps_step s t h).cfg⟩

end Sys2Proof.Machine
end

section
/-! PROOF. What a write of mstatus, mstatush or sstatus leaves, said once per bit by `statusBit`; what the access check
answers for satp, hgatp and vsatp; the time CSR, and 64-bit registers written by halves. -/

namespace Sys2Proof.Machine

/-! ### Masks and halves -/

theorem getLsbD_bitMask {i : Nat} (hi : i < 64) (k : Nat) : (bitMask i).getLsbD k = decide (k = i) := by
  rw [bitMask, BitVec.getLsbD_ofNat, Nat.testBit_two_pow]
  grind

theorem getLsbD_fieldMask (lo len k : Nat) :
    (fieldMask lo len).getLsbD k = (decide (k < 64) && decide (lo ≤ k) && decide (k < lo + len)) := by
  rw [fieldMask, BitVec.getLsbD_shiftLeft, BitVec.getLsbD_ofNat, Nat.testBit_two_pow_sub_one]
  grind

theorem getLsbD_wrap (c : Config) (v : Word) (k : Nat) :
    (wrap c v).getLsbD k = (decide (k < c.xlen) && v.getLsbD k) := by
  simp only [BitVec.getLsbD, toNat_wrap, Nat.testBit_mod_two_pow]

theorem getLsbD_high32 (v : Word) (k : Nat) : (high32 v).getLsbD k = v.getLsbD (32 + k) :=
  BitVec.getLsbD_ushiftRight v 32 k

theorem toNat_high32 (v : Word) : (high32 v).toNat = v.toNat / 2 ^ 32 := by
  rw [high32, BitVec.toNat_ushiftRight, Nat.shiftRight_eq_div_pow]

/-- A register's two halves as one number. -/
theorem toNat_halves (high low : BitVec 32) : (high ++ low).toNat = high.toNat * 2 ^ 32 + low.toNat := by
  rw [BitVec.toNat_append, ← Nat.shiftLeft_add_eq_or_of_lt low.isLt, Nat.shiftLeft_eq]

/-- At XLEN = 32 a write of a 64-bit register's low half keeps the high one (11_csr_machine R144). -/
theorem toNat_writeLow (c : Config) (old v : Word) :
    (writeLow c old v).toNat = if c.rv64 then v.toNat else old.toNat / 2 ^ 32 * 2 ^ 32 + v.toNat % 2 ^ 32 := by
  unfold writeLow
  split
  · rfl
  have halves : merge (fieldMask 0 32) old v = (high32 old).setWidth 32 ++ low32 v := by
    refine BitVec.eq_of_getLsbD_eq fun k hk => ?_
    simp only [getLsbD_merge, getLsbD_fieldMask, BitVec.getLsbD_append, BitVec.getLsbD_setWidth, low32, getLsbD_high32]
    grind
  rw [halves, toNat_halves, BitVec.toNat_setWidth, toNat_high32, low32, BitVec.toNat_setWidth]
  omega

/-- A write of the high half keeps the low one. -/
theorem toNat_writeHigh (old v : Word) : (writeHigh old v).toNat = old.toNat % 2 ^ 32 + v.toNat % 2 ^ 32 * 2 ^ 32 := by
  have halves : writeHigh old v = low32 v ++ low32 old := by
    refine BitVec.eq_of_getLsbD_eq fun k hk => ?_
    simp only [writeHigh, getLsbD_merge, getLsbD_fieldMask, BitVec.getLsbD_append, BitVec.getLsbD_setWidth, low32,
      BitVec.getLsbD_shiftLeft]
    grind
  rw [halves, toNat_halves, low32, low32, BitVec.toNat_setWidth, BitVec.toNat_setWidth]
  omega

/-! ### The bits of mstatus -/

/-- What bit `k` of mstatus, in the 64-bit layout, reads where `b` is stored (R112 to R125; 13_csr_hypervisor R300). -/
def statusBit (c : Config) (k : Nat) (b : Bool) : Bool :=
  match k with
  | 3 | 7 | 11 | 12 => b
  | 1 | 5 | 8 | 19 | 20 | 22 => c.hasS && b
  | 6 => c.hasU && endianBit c.ube b
  | 17 | 21 => c.hasU && b
  | 18 => c.hasPaging && b
  | 33 => c.rv64 && c.hasU
  | 35 => c.rv64 && c.hasS
  | 36 => c.hasS && endianBit c.sbe b
  | 37 => endianBit c.mbe b
  | 38 | 39 => c.hasH && b
  | _ => false

/-- An endianness bit's shares of the write mask and of the fixed bits make what it reads (R121). -/
theorem endianBit_eq (e : EndianBit) (b : Bool) : (b && (e == .writable) || (e == .one)) = endianBit e b := by
  cases e <;> simp [endianBit]

theorem getLsbD_mstatusFixed_uxl (k : Nat) : (2 <<< UXL : Word).getLsbD k = decide (k = 33) :=
  getLsbD_bitMask (i := 33) (by decide) k

theorem getLsbD_mstatusFixed_sxl (k : Nat) : (2 <<< SXL : Word).getLsbD k = decide (k = 35) :=
  getLsbD_bitMask (i := 35) (by decide) k

/-- The two masks of the model are the table. -/
theorem mstatus_masks_eq_statusBit (c : Config) (k : Nat) (b : Bool) :
    (b && (mstatusMask c).getLsbD k || (mstatusFixed c).getLsbD k) = statusBit c k b := by
  simp (disch := decide) only [mstatusMask, mstatusFixed, EndianBit.writeMask, EndianBit.fixed, BitVec.getLsbD_or,
    getLsbD_maskIf, getLsbD_fieldMask, getLsbD_bitMask, getLsbD_mstatusFixed_uxl, getLsbD_mstatusFixed_sxl]
  simp only [SIE, MIE, SPIE, UBE, MPIE, SPP, MPP, MPRV, SUM, MXR, TVM, TW, TSR, SBE, MBE, GVA, MPV]
  unfold statusBit
  split
  case h_21 => grind -- no field of mstatus
  all_goals simp [← endianBit_eq, Bool.and_or_distrib_left, Bool.and_left_comm, Bool.and_comm]

theorem getLsbD_mstatusRead (s : State) (k : Nat) :
    (mstatusRead s).getLsbD k = statusBit s.cfg k (s.m.mstatus.getLsbD k) := by
  rw [mstatusRead, BitVec.getLsbD_or, BitVec.getLsbD_and, mstatus_masks_eq_statusBit]

/-- The value a write of mstatus stores: the one written, with the old MPP where the new one is not legal (R116). -/
def withLegalMpp (s : State) (v : Word) : Word :=
  if mppLegal s.cfg (getField v MPP 2) then v else merge (fieldMask MPP 2) v s.m.mstatus

theorem mstatusWrite_mstatus (s : State) (mask v : Word) :
    (mstatusWrite s mask v).m.mstatus = merge (mask &&& mstatusMask s.cfg) s.m.mstatus (withLegalMpp s v) := rfl

theorem getLsbD_withLegalMpp (s : State) (v : Word) {k : Nat} (h : k ≠ 11 ∧ k ≠ 12) :
    (withLegalMpp s v).getLsbD k = v.getLsbD k := by
  have outside : (fieldMask MPP 2).getLsbD k = false := by
    simp only [getLsbD_fieldMask, MPP]
    grind
  unfold withLegalMpp
  split
  · rfl
  · simp [getLsbD_merge, outside]

theorem mppField_withLegalMpp (s : State) (v : Word) :
    getField (withLegalMpp s v) MPP 2 =
      if mppLegal s.cfg (getField v MPP 2) then getField v MPP 2 else getField s.m.mstatus MPP 2 := by
  unfold withLegalMpp
  split
  · rfl
  · simp [mppField_merge mppBits_field]

/-- A write through `mask` leaves a bit legalised where the mask has it, and as it was elsewhere. MPP, which is legalised as a
field, is apart. -/
theorem getLsbD_mstatusRead_mstatusWrite (s : State) {mask : Word} (v : Word) {k : Nat}
    (hk : mask.getLsbD k = true → k ≠ 11 ∧ k ≠ 12) :
    (mstatusRead (mstatusWrite s mask v)).getLsbD k =
      if mask.getLsbD k then statusBit s.cfg k (v.getLsbD k) else (mstatusRead s).getLsbD k := by
  rw [getLsbD_mstatusRead, getLsbD_mstatusRead, mstatusWrite_cfg, mstatusWrite_mstatus, getLsbD_merge, BitVec.getLsbD_and]
  cases written : mask.getLsbD k
  case false => simp
  case true =>
    rw [getLsbD_withLegalMpp s v (hk written), ← mstatus_masks_eq_statusBit, ← mstatus_masks_eq_statusBit]
    cases (mstatusMask s.cfg).getLsbD k <;> simp

theorem mppField_mstatusWrite (s : State) {mask : Word} (v : Word) (h : mppBits mask true) :
    getField (mstatusRead (mstatusWrite s mask v)) MPP 2 =
      if mppLegal s.cfg (getField v MPP 2) then getField v MPP 2 else getField (mstatusRead s) MPP 2 := by
  have written : mppBits (mask &&& mstatusMask s.cfg) true := fun k h1 h2 => by
    rw [BitVec.getLsbD_and, h k h1 h2, mppBits_mstatusMask s.cfg k h1 h2, Bool.and_true]
  rw [mppField_mstatusRead, mppField_mstatusRead, mstatusWrite_mstatus, mppField_merge written, if_pos rfl,
    mppField_withLegalMpp]

/-! ### mstatus, mstatush and sstatus as CSRs -/

theorem lt_xlen_of_lt_32 (c : Config) {k : Nat} (h : k < 32) : k < c.xlen := by
  unfold Config.xlen
  split <;> omega

theorem getLsbD_csrRead_mstatus (s : State) (k : Nat) :
    (csrRead s .mstatus).getLsbD k = (decide (k < s.cfg.xlen) && (mstatusRead s).getLsbD k) :=
  getLsbD_wrap ..

theorem getLsbD_csrRead_mstatush (s : State) (k : Nat) :
    (csrRead s .mstatush).getLsbD k = (decide (k < s.cfg.xlen) && (mstatusRead s).getLsbD (32 + k)) := by
  rw [← getLsbD_high32]
  exact getLsbD_wrap ..

theorem mppField_csrRead_mstatus (s : State) : getField (csrRead s .mstatus) MPP 2 = getField (mstatusRead s) MPP 2 :=
  mppField_congr fun k _ h => by simp [getLsbD_csrRead_mstatus, lt_xlen_of_lt_32 s.cfg (k := k) (by omega)]

/-- mstatus reaches the low XLEN bits of the 64-bit layout. -/
theorem getLsbD_mstatusHalf (c : Config) {k : Nat} (hk : k < 64) :
    (if c.rv64 then fieldMask 0 64 else fieldMask 0 32).getLsbD k = decide (k < c.xlen) := by
  unfold Config.xlen
  split <;> rw [getLsbD_fieldMask] <;> simp [hk]

theorem mstatusRead_csrWrite_mstatus (s : State) (v : Word) {k : Nat} (hk : k < 64) (h : k ≠ 11 ∧ k ≠ 12) :
    (mstatusRead (csrWrite s .mstatus v)).getLsbD k =
      if k < s.cfg.xlen then statusBit s.cfg k (v.getLsbD k) else (mstatusRead s).getLsbD k := by
  rw [csrWrite, getLsbD_mstatusRead_mstatusWrite s v fun _ => h, getLsbD_mstatusHalf _ hk]
  simp only [decide_eq_true_eq]

/-- The low bits of mstatus as read after a write of it. -/
theorem csrRead_csrWrite_mstatus (s : State) (v : Word) {k : Nat} (hk : k < s.cfg.xlen) (h : k ≠ 11 ∧ k ≠ 12) :
    (csrRead (csrWrite s .mstatus v) .mstatus).getLsbD k = statusBit s.cfg k (v.getLsbD k) := by
  have hk64 : k < 64 := by
    unfold Config.xlen at hk
    split at hk <;> omega
  rw [getLsbD_csrRead_mstatus, csrWrite_cfg, mstatusRead_csrWrite_mstatus s v hk64 h, if_pos hk, decide_eq_true hk,
    Bool.true_and]

/-- R116: a legal mode is taken, another leaves MPP as it was. -/
theorem mppField_csrWrite_mstatus (s : State) (v : Word) :
    getField (csrRead (csrWrite s .mstatus v) .mstatus) MPP 2 =
      if mppLegal s.cfg (getField v MPP 2) then getField v MPP 2 else getField (csrRead s .mstatus) MPP 2 := by
  have reached : mppBits (if s.cfg.rv64 then fieldMask 0 64 else fieldMask 0 32) true := by
    split <;> exact mppBits_of_bits (by decide)
  rw [mppField_csrRead_mstatus, mppField_csrRead_mstatus, csrWrite, mppField_mstatusWrite s v reached]

theorem mstatusRead_csrWrite_mstatush (s : State) (v : Word) {k : Nat} (hk : k < 64) :
    (mstatusRead (csrWrite s .mstatush v)).getLsbD k =
      if 32 ≤ k then statusBit s.cfg k (v.getLsbD (k - 32)) else (mstatusRead s).getLsbD k := by
  have reached : (fieldMask 32 32).getLsbD k = decide (32 ≤ k) := by
    rw [getLsbD_fieldMask]
    simp [hk]
  rw [csrWrite, getLsbD_mstatusRead_mstatusWrite s _ (by rw [reached]; grind), reached, BitVec.getLsbD_shiftLeft]
  grind

theorem getLsbD_sstatusMask (c : Config) (k : Nat) :
    (sstatusMask c).getLsbD k = (decide (k ∈ [1, 5, 6, 8, 18, 19]) || (c.rv64 && decide (k ∈ [32, 33]))) := by
  simp (disch := decide) only [sstatusMask, BitVec.getLsbD_or, getLsbD_maskIf, getLsbD_bitMask, getLsbD_fieldMask]
  simp only [SIE, SPIE, UBE, SPP, SUM, MXR, UXL]
  grind

/-- sstatus shows its fields of mstatus and nothing else (12_csr_supervisor R200). -/
theorem getLsbD_csrRead_sstatus (s : State) (k : Nat) :
    (csrRead s .sstatus).getLsbD k =
      (decide (k ∈ [1, 5, 6, 8, 18, 19, 32, 33]) && (csrRead s .mstatus).getLsbD k) := by
  have view : (csrRead s .sstatus).getLsbD k = (decide (k < s.cfg.xlen) && (sstatusRead s).getLsbD k) := getLsbD_wrap ..
  rw [view, getLsbD_csrRead_mstatus, sstatusRead, BitVec.getLsbD_and, getLsbD_sstatusMask]
  unfold Config.xlen
  grind

/-- UXL is in sstatus and not writable, so a write of sstatus leaves it too. -/
theorem csrRead_csrWrite_sstatus (s : State) (v : Word) (k : Nat) :
    (csrRead (csrWrite s .sstatus v) .mstatus).getLsbD k =
      if k ∈ [1, 5, 6, 8, 18, 19] then statusBit s.cfg k (v.getLsbD k) else (csrRead s .mstatus).getLsbD k := by
  have noMpp : (sstatusMask s.cfg).getLsbD k = true → k ≠ 11 ∧ k ≠ 12 := by
    rw [getLsbD_sstatusMask]
    grind
  rw [getLsbD_csrRead_mstatus, getLsbD_csrRead_mstatus, csrWrite_cfg, csrWrite, getLsbD_mstatusRead_mstatusWrite s v noMpp,
    getLsbD_sstatusMask]
  by_cases field : k ∈ [1, 5, 6, 8, 18, 19]
  · have low : k < s.cfg.xlen := lt_xlen_of_lt_32 _ (by grind)
    simp [field, low]
  · by_cases uxl : k ∈ [32, 33]
    · rw [getLsbD_mstatusRead]
      rcases List.mem_pair.1 uxl with rfl | rfl <;> simp [statusBit]
    · simp [field, uxl]

/-! ### The obligation on the status registers -/

/-- The upper half of `statusBit`, as mstatush numbers its bits. -/
theorem statusBit_high (c : Config) (k : Nat) (b : Bool) :
    statusBit c (32 + k) b =
      if k = 1 then c.rv64 && c.hasU
      else if k = 3 then c.rv64 && c.hasS
      else if k = 4 then c.hasS && endianBit c.sbe b
      else if k = 5 then endianBit c.mbe b
      else if k = 6 ∨ k = 7 then c.hasH && b
      else false := by
  unfold statusBit
  grind

theorem mppLegal_iff (c : Config) (n : Nat) :
    mppLegal c n = true ↔ n = 3 ∨ (n = 1 ∧ c.hasS = true) ∨ (n = 0 ∧ c.hasU = true) := by
  simp [mppLegal, or_assoc, or_comm (a := n = 0 ∧ _)]

/-- After a write of mstatus each field of the low half holds the written bit where its mode or feature exists. -/
theorem mstatus_fields_written (s : State) (v : Word) :
    ∀ p ∈ [(3, true), (7, true), (1, s.cfg.hasS), (5, s.cfg.hasS), (8, s.cfg.hasS), (19, s.cfg.hasS), (20, s.cfg.hasS),
        (22, s.cfg.hasS), (17, s.cfg.hasU), (21, s.cfg.hasU), (18, s.cfg.hasPaging)],
      (csrRead (csrWrite s .mstatus v) .mstatus).getLsbD p.1 = (p.2 && v.getLsbD p.1) := by
  intro p hp
  have low : p.1 < 32 ∧ p.1 ≠ 11 ∧ p.1 ≠ 12 := by
    revert p
    simp only [List.forall_mem_cons]
    decide
  rw [csrRead_csrWrite_mstatus s v (lt_xlen_of_lt_32 _ low.1) low.2]
  revert p
  simp [statusBit]

/-- The bits of the low half that are no field. -/
theorem mstatus_others_zero (s : State) (v : Word) :
    ∀ k ∈ [0, 2, 4, 9, 10, 13, 14, 15, 16, 23, 24, 25, 26, 27, 28, 29, 30, 31],
      (csrRead (csrWrite s .mstatus v) .mstatus).getLsbD k = false := by
  intro k hk
  have low : k < 32 ∧ k ≠ 11 ∧ k ≠ 12 := by revert k; decide
  rw [csrRead_csrWrite_mstatus s v (lt_xlen_of_lt_32 _ low.1) low.2]
  revert k
  simp [statusBit]

/-- At XLEN = 32 a write of mstatus leaves mstatush. -/
theorem mstatush_after_mstatus {s : State} (h32 : s.cfg.rv64 = false) (v : Word) :
    csrRead (csrWrite s .mstatus v) .mstatush = csrRead s .mstatush := by
  refine BitVec.eq_of_getLsbD_eq fun k _ => ?_
  rw [getLsbD_csrRead_mstatush, getLsbD_csrRead_mstatush, csrWrite_cfg]
  by_cases hk : k < 32
  · rw [mstatusRead_csrWrite_mstatus s v (by omega) (by omega), if_neg (by simp [Config.xlen, h32])]
  · simp [Config.xlen, h32, hk]

/-- At XLEN = 32 a write of mstatush leaves mstatus. -/
theorem mstatus_after_mstatush {s : State} (h32 : s.cfg.rv64 = false) (v : Word) :
    csrRead (csrWrite s .mstatush v) .mstatus = csrRead s .mstatus := by
  refine BitVec.eq_of_getLsbD_eq fun k hk64 => ?_
  rw [getLsbD_csrRead_mstatus, getLsbD_csrRead_mstatus, csrWrite_cfg, mstatusRead_csrWrite_mstatush s v hk64]
  simp only [Config.xlen, h32]
  grind

/-- At XLEN = 32 a write of mstatush leaves the upper half of mstatus, legalised. -/
theorem csrRead_csrWrite_mstatush {s : State} (h32 : s.cfg.rv64 = false) (v : Word) (k : Nat) :
    (csrRead (csrWrite s .mstatush v) .mstatush).getLsbD k = statusBit s.cfg (32 + k) (v.getLsbD k) := by
  rw [getLsbD_csrRead_mstatush, csrWrite_cfg]
  by_cases hk : k < 32
  · rw [mstatusRead_csrWrite_mstatush s v (by omega)]
    simp [Config.xlen, h32, hk]
  · rw [statusBit_high]
    simp only [Config.xlen, h32]
    grind

/-- Settles O17: each read after a write is read off `statusBit`. -/
theorem statusWritesAreLegalised : Obligations.StatusWritesAreLegalised := by
  unfold Obligations.StatusWritesAreLegalised
  refine ⟨fun s v => ?_, fun s v hS => ?_⟩
  · have mpp := mppField_csrWrite_mstatus s v
    have field : v.toNat / 2 ^ 11 % 4 = getField v MPP 2 := by simp [getField, MPP, Nat.shiftRight_eq_div_pow]
    dsimp only
    rw [field, ← mppLegal_iff]
    simp only [← statusBit_high]
    refine ⟨mstatus_fields_written s v, fun legal => mpp.trans (if_pos legal), fun illegal => mpp.trans (if_neg illegal),
      mstatus_others_zero s v, csrRead_csrWrite_mstatus s v (lt_xlen_of_lt_32 _ (by decide)) (by decide), fun h64 k hk => ?_,
      fun h32 => ⟨mstatush_after_mstatus h32 v, mstatus_after_mstatush h32 v, csrRead_csrWrite_mstatush h32 v⟩, rfl, rfl⟩
    have inside : 32 + k < s.cfg.xlen := by
      rw [Config.xlen, if_pos h64]
      omega
    exact csrRead_csrWrite_mstatus s v inside (by omega)
  · have bit := csrRead_csrWrite_sstatus s v
    refine ⟨?_, bit 18, bit 6, fun k hk => (bit k).trans (if_neg hk), getLsbD_csrRead_sstatus _, rfl⟩
    intro k hk
    have writable : k ∈ [1, 5, 6, 8, 18, 19] := by grind
    rw [bit, if_pos writable]
    revert k
    simp [statusBit, hS]

/-! ### The access check -/

/-- At an address of an existing register that may be written, the check is R663's privilege step and then R666's. -/
theorem csrCheck_eq {s : State} {addr : BitVec 12} {r : Csr} (allocated : csrAt addr = some r)
    (exists_ : csrExists s.cfg r = true) (writable : (addr.extractLsb' 10 2 == 3) = false) (w : Bool) :
    csrCheck s addr w =
      ((privCheck s (addr.extractLsb' 8 2).toNat).or (specialCheck s r)).elim (.ok (csrRedirect s.virt r)) .error := by
  simp only [csrCheck, allocated, exists_, writable, Bool.not_true, Bool.and_false, Bool.false_eq_true, if_false]
  cases privCheck s (addr.extractLsb' 8 2).toNat
  · cases specialCheck s r <;> rfl
  · rfl

/-- satp: its address asks for supervisor level (R228). -/
theorem csrCheck_satp {s : State} (hS : s.cfg.hasS = true) (w : Bool) :
    csrCheck s 0x180 w =
      ((privCheck s 1).or (specialCheck s .satp)).elim (.ok (if s.virt then .vsatp else .satp)) .error := by
  have redirected : csrRedirect s.virt .satp = if s.virt then .vsatp else .satp := by cases s.virt <;> rfl
  rw [csrCheck_eq (r := .satp) rfl hS rfl, redirected]
  rfl

/-- hgatp: its address asks for hypervisor level (R288). -/
theorem csrCheck_hgatp {s : State} (hH : s.cfg.hasH = true) (w : Bool) :
    csrCheck s 0x680 w = ((privCheck s 2).or (specialCheck s .hgatp)).elim (.ok .hgatp) .error := by
  have redirected : csrRedirect s.virt .hgatp = .hgatp := by cases s.virt <;> rfl
  rw [csrCheck_eq (r := .hgatp) rfl hH rfl, redirected]
  rfl

/-- vsatp: hypervisor level too, and no guard of its own. -/
theorem csrCheck_vsatp {s : State} (hH : s.cfg.hasH = true) (w : Bool) :
    csrCheck s 0x280 w = (privCheck s 2).elim (.ok .vsatp) .error := by
  have redirected : csrRedirect s.virt .vsatp = .vsatp := by cases s.virt <;> rfl
  have unguarded : specialCheck s .vsatp = none := by simp [specialCheck, csrCounter]
  rw [csrCheck_eq (r := .vsatp) rfl hH rfl, redirected, unguarded, Option.or_none]
  rfl

/-- The guards of satp: TVM with V = 0 (R122), VTVM with V = 1 (R262). -/
theorem specialCheck_satp (s : State) :
    specialCheck s .satp =
      if s.virt then (if s.priv = .S ∧ hstatusBit s VTVM then some .virtual else none)
      else if s.priv = .S ∧ mstatusBit s TVM then some .illegal else none := rfl

/-- The guard of hgatp: TVM in HS-mode (R288). -/
theorem specialCheck_hgatp (s : State) :
    specialCheck s .hgatp = if s.priv = .S ∧ s.virt = false ∧ mstatusBit s TVM then some .illegal else none := by
  simp [specialCheck, csrCounter]

section
variable {s : State}

/-- M-mode has every level. -/
theorem privCheck_machine (hp : s.priv = .M) (hv : s.virt = false) {level : Nat} (h : level ≤ 3) :
    privCheck s level = none := by
  simp only [privCheck, hp, hv, Priv.code, reduceCtorEq, and_false, Bool.false_eq_true, if_false]
  exact if_neg (Nat.not_lt.2 h)

/-- S-mode, with V = 0 and V = 1, has supervisor level. -/
theorem privCheck_supervisor (hp : s.priv = .S) : privCheck s 1 = none := by
  cases hv : s.virt <;> cases hH : s.cfg.hasH <;> simp [privCheck, hp, hv, hH, Priv.code]

/-- HS-mode has hypervisor level. -/
theorem privCheck_hypervisor (hH : s.cfg.hasH = true) (hp : s.priv = .S) (hv : s.virt = false) : privCheck s 2 = none := by
  simp [privCheck, hp, hv, hH]

theorem privCheck_user (hp : s.priv = .U) (hv : s.virt = false) : privCheck s 2 = some .illegal := by
  simp [privCheck, hp, hv, Priv.code]

/-- No guest has hypervisor level. -/
theorem privCheck_guest (hv : s.virt = true) : privCheck s 2 = some .virtual := by simp [privCheck, hv]

end

/-! ### Time -/

/-- The time CSR's 64 bits as a number (R284). -/
theorem toNat_timeRead (s : State) :
    (timeRead s).toNat = (s.plat.mtime.toNat + if s.virt then s.h.htimedelta.toNat else 0) % 2 ^ 64 := by
  unfold timeRead
  split
  · exact BitVec.toNat_add ..
  · exact (Nat.mod_eq_of_lt s.plat.mtime.isLt).symm

theorem toNat_csrRead_time (s : State) : (csrRead s .time).toNat = (timeRead s).toNat % 2 ^ s.cfg.xlen :=
  toNat_wrap ..

/-- The high half of a 64-bit word fits a register of either width. -/
theorem wrap_high32 (c : Config) (v : Word) : wrap c (high32 v) = high32 v :=
  wrap_of_high_zero <| .inr <| BitVec.eq_of_getLsbD_eq fun k hk => by
    rw [BitVec.getLsbD_extractLsb', getLsbD_high32, BitVec.getLsbD_of_ge v _ (by omega)]
    simp

theorem toNat_csrRead_timeh (s : State) : (csrRead s .timeh).toNat = (timeRead s).toNat / 2 ^ 32 := by
  rw [← toNat_high32, ← wrap_high32 s.cfg]
  rfl

/-! ### The obligation on the translation registers and time -/

/-- Settles O20: each mode's level, then the register's own guard. -/
theorem translationCsrsAreGuarded : Obligations.TranslationCsrsAreGuarded := by
  unfold Obligations.TranslationCsrsAreGuarded
  refine ⟨fun s w hS => ?_, fun s w hH => ?_, fun s v => ?_⟩
  · rw [csrCheck_satp hS, specialCheck_satp]
    refine ⟨fun hp hv => ?_, fun hp hv => ?_, fun hp hv => ?_⟩
    · rw [privCheck_machine hp hv (by decide)]
      simp [hp, hv]
    · rw [privCheck_supervisor hp]
      cases mstatusBit s TVM <;> simp [hp, hv]
    · rw [privCheck_supervisor hp]
      cases hstatusBit s VTVM <;> simp [hp, hv]
  · rw [csrCheck_hgatp hH, csrCheck_vsatp hH, specialCheck_hgatp]
    refine ⟨fun hp hv => ?_, fun hp hv => ?_, fun hp hv => ?_, fun hv => ?_⟩
    · rw [privCheck_machine hp hv (by decide)]
      simp [hp]
    · rw [privCheck_hypervisor hH hp hv]
      cases mstatusBit s TVM <;> simp [hp, hv]
    · rw [privCheck_user hp hv]
      rfl
    · rw [privCheck_guest hv]
      rfl
  · dsimp only
    rw [← toNat_timeRead]
    exact ⟨toNat_csrRead_time s, toNat_csrRead_timeh s, toNat_writeLow .., toNat_writeHigh ..⟩

end Sys2Proof.Machine
end

section
/-! PROOF. What a write of satp, vsatp, hgatp, of a trap vector, of an exception pc and of a counter leaves; a CSRRW that the
access check lets pass. -/

namespace Sys2Proof.Machine

/-! ### Fields, bit by bit -/

theorem testBit_getField (w : Word) (lo len k : Nat) :
    (getField w lo len).testBit k = (decide (k < len) && w.getLsbD (lo + k)) := by
  rw [getField, Nat.testBit_mod_two_pow, ← BitVec.getLsbD, BitVec.getLsbD_ushiftRight]

/-- A field of which only the low `n` bits are kept is the other word's, modulo 2^n. -/
theorem getField_truncated {w v : Word} {lo len n : Nat}
    (bits : ∀ k < len, w.getLsbD (lo + k) = (decide (k < n) && v.getLsbD (lo + k))) :
    getField w lo len = getField v lo len % 2 ^ n := by
  refine Nat.eq_of_testBit_eq fun k => ?_
  rw [Nat.testBit_mod_two_pow, testBit_getField, testBit_getField]
  by_cases hk : k < len
  · rw [bits k hk, Bool.and_left_comm]
  · simp [hk]

/-- The low field, of which the two lowest bits are cleared too. -/
theorem getField_truncated_aligned {w v : Word} {len n : Nat}
    (bits : ∀ k < len, w.getLsbD k = (decide (2 ≤ k) && decide (k < n) && v.getLsbD k)) :
    getField w 0 len = getField v 0 len % 2 ^ n / 4 * 4 := by
  refine Nat.eq_of_testBit_eq fun k => ?_
  have four : getField v 0 len % 2 ^ n / 4 * 4 = 2 ^ 2 * (getField v 0 len % 2 ^ n / 2 ^ 2) := Nat.mul_comm ..
  rw [four, Nat.testBit_two_pow_mul, Nat.testBit_div_two_pow, Nat.testBit_mod_two_pow, testBit_getField, testBit_getField]
  simp only [Nat.zero_add]
  by_cases hk : k < len
  · rw [bits k hk]
    grind
  · grind

theorem getField_merge_fieldMask {lo len : Nat} (h : lo + len ≤ 64) (old new : Word) :
    getField (merge (fieldMask lo len) old new) lo len = getField new lo len :=
  getField_congr fun k hk => by
    rw [getLsbD_merge, getLsbD_fieldMask]
    grind

theorem getField_merge_fieldMask_apart {lo len lo' len' : Nat} (h : lo' + len' ≤ lo) (old new : Word) :
    getField (merge (fieldMask lo len) old new) lo' len' = getField old lo' len' :=
  getField_congr fun k hk => by
    rw [getLsbD_merge, getLsbD_fieldMask]
    grind

/-- The mask of the two lowest bits. -/
theorem getLsbD_three (k : Nat) : (3 : Word).getLsbD k = decide (k < 2) := by
  have mask : (3 : Word) = fieldMask 0 2 := rfl
  rw [mask, getLsbD_fieldMask]
  grind

/-! ### The layout of satp, vsatp and hgatp -/

/-- Where MODE and ASID or VMID lie (R223, R226; 13_csr_hypervisor R288, R291, R292). PPN is all bits below the id. -/
structure AtpLayout where
  modeAt : Nat
  modeLen : Nat
  idAt : Nat

def atpLayout (c : Config) : AtpLayout := if c.rv64 then ⟨60, 4, 44⟩ else ⟨31, 1, 22⟩

theorem atpMode_eq (c : Config) (v : Word) : atpMode c v = getField v (atpLayout c).modeAt (atpLayout c).modeLen := by
  unfold atpMode atpLayout
  split <;> rfl

theorem atpPpn_eq (c : Config) (v : Word) : atpPpn c v = getField v 0 (atpLayout c).idAt := by
  unfold atpPpn atpLayout
  split <;> rfl

/-- With an id of at most `idMax` bits, `idLen` of them implemented, the fields follow each other in the register. -/
structure AtpFits (c : Config) (idLen idMax : Nat) : Prop where
  ppn : c.palen - 12 ≤ (atpLayout c).idAt
  idLen : idLen ≤ idMax
  idMax : (atpLayout c).idAt + idMax ≤ (atpLayout c).modeAt
  mode : (atpLayout c).modeAt + (atpLayout c).modeLen = c.xlen
  xlen : c.xlen ≤ 64
  low : 2 ≤ (atpLayout c).idAt

/-- What the legal parameters say of the widths of ASID, VMID and PPN. -/
theorem valid_atpWidths {c : Config} (h : c.valid = true) :
    c.asidLen ≤ c.asidMax ∧ c.vmidLen ≤ c.vmidMax ∧ c.palen - 12 ≤ (atpLayout c).idAt := by
  simp only [Config.valid, Bool.and_eq_true, decide_eq_true_eq] at h
  unfold atpLayout
  grind

theorem asid_fits {c : Config} (h : c.valid = true) : AtpFits c c.asidLen c.asidMax := by
  obtain ⟨asid, -, ppn⟩ := valid_atpWidths h
  exact ⟨ppn, asid, by grind [atpLayout, Config.asidMax], by grind [atpLayout, Config.xlen], by grind [Config.xlen],
    by grind [atpLayout]⟩

/-- Two bits of hgatp are left between VMID and MODE. -/
theorem vmid_ends (c : Config) : (atpLayout c).idAt + c.vmidMax + 2 = (atpLayout c).modeAt := by
  unfold atpLayout Config.vmidMax
  split <;> rfl

theorem vmid_fits {c : Config} (h : c.valid = true) : AtpFits c c.vmidLen c.vmidMax := by
  obtain ⟨-, vmid, -⟩ := valid_atpWidths h
  have ends := vmid_ends c
  exact { asid_fits h with idLen := vmid, idMax := by omega }

/-- Bit `k` is implemented: of MODE, of the low `idLen` bits of the id, or of the low PALEN - 12 bits of PPN. -/
def atpImplemented (c : Config) (idLen k : Nat) : Bool :=
  decide ((atpLayout c).modeAt ≤ k ∧ k < c.xlen) || decide ((atpLayout c).idAt ≤ k ∧ k < (atpLayout c).idAt + idLen) ||
    decide (k < c.palen - 12)

/-- The mask of those bits, which those of satp, vsatp and hgatp share. -/
def atpMask (c : Config) (idLen : Nat) : Word :=
  if c.rv64 then fieldMask 60 4 ||| fieldMask 44 idLen ||| (ppnMask c &&& fieldMask 0 44)
  else fieldMask 31 1 ||| fieldMask 22 idLen ||| (ppnMask c &&& fieldMask 0 22)

theorem satpMask_eq (c : Config) : satpMask c = atpMask c c.asidLen := rfl

theorem hgatpMask_eq (c : Config) : hgatpMask c = atpMask c c.vmidLen &&& ~~~3 := rfl

section
variable {c : Config} {idLen idMax : Nat} (fits : AtpFits c idLen idMax)
include fits

theorem getLsbD_atpMask (k : Nat) : (atpMask c idLen).getLsbD k = atpImplemented c idLen k := by
  obtain ⟨ppn, len, id, -, -, -⟩ := fits
  unfold atpMask atpImplemented
  unfold atpLayout Config.xlen at *
  split <;> simp only [BitVec.getLsbD_or, BitVec.getLsbD_and, ppnMask, getLsbD_fieldMask] <;> grind

/-- MODE and the id of a word that holds the implemented bits of `w`, the two lowest of PPN apart. -/
theorem mode_and_id_of_bits {x w : Word} (bits : ∀ k, 2 ≤ k → x.getLsbD k = (atpImplemented c idLen k && w.getLsbD k)) :
    atpMode c x = atpMode c w ∧
      getField x (atpLayout c).idAt idMax = getField w (atpLayout c).idAt idMax % 2 ^ idLen := by
  obtain ⟨ppn, len, id, mode, -, low⟩ := fits
  rw [atpMode_eq, atpMode_eq]
  refine ⟨getField_congr fun k hk => ?_, getField_truncated fun k hk => ?_⟩
  · have implemented : atpImplemented c idLen ((atpLayout c).modeAt + k) = true := by grind [atpImplemented]
    rw [bits _ (by omega), implemented, Bool.true_and]
  · have implemented : atpImplemented c idLen ((atpLayout c).idAt + k) = decide (k < idLen) := by grind [atpImplemented]
    rw [bits _ (by omega), implemented]

theorem atpImplemented_ppn {k : Nat} (hk : k < (atpLayout c).idAt) :
    atpImplemented c idLen k = decide (k < c.palen - 12) := by
  obtain ⟨-, -, id, -, -, -⟩ := fits
  grind [atpImplemented]

theorem getLsbD_wrap_atpMask (w : Word) (k : Nat) :
    (wrap c (w &&& atpMask c idLen)).getLsbD k = (atpImplemented c idLen k && w.getLsbD k) := by
  have inside : atpImplemented c idLen k = true → k < c.xlen := by
    obtain ⟨ppn, len, id, mode, -, -⟩ := fits
    grind [atpImplemented]
  rw [getLsbD_wrap, BitVec.getLsbD_and, getLsbD_atpMask fits]
  grind

end

/-! ### satp, vsatp and hgatp: reads of the word stored -/

section
variable {c : Config} (valid : c.valid = true) (w : Word)
include valid

/-- The fields of satp or vsatp as read. -/
theorem fields_wrap_satpMask :
    atpMode c (wrap c (w &&& satpMask c)) = atpMode c w ∧
      getField (wrap c (w &&& satpMask c)) (atpLayout c).idAt c.asidMax =
        getField w (atpLayout c).idAt c.asidMax % 2 ^ c.asidLen ∧
      atpPpn c (wrap c (w &&& satpMask c)) = atpPpn c w % 2 ^ (c.palen - 12) := by
  have fits := asid_fits valid
  have bits := getLsbD_wrap_atpMask fits w
  rw [satpMask_eq]
  obtain ⟨mode, id⟩ := mode_and_id_of_bits fits fun k _ => bits k
  refine ⟨mode, id, ?_⟩
  rw [atpPpn_eq, atpPpn_eq]
  refine getField_truncated fun k hk => ?_
  rw [Nat.zero_add, bits, atpImplemented_ppn fits hk]

/-- In hgatp the two lowest bits of PPN are zero (13_csr_hypervisor R291). -/
theorem getLsbD_wrap_hgatpMask (k : Nat) :
    (wrap c (w &&& hgatpMask c)).getLsbD k = (decide (2 ≤ k) && (atpImplemented c c.vmidLen k && w.getLsbD k)) := by
  rw [← getLsbD_wrap_atpMask (vmid_fits valid), getLsbD_wrap, getLsbD_wrap, hgatpMask_eq]
  simp only [BitVec.getLsbD_and, BitVec.getLsbD_not, getLsbD_three]
  grind

/-- The fields of hgatp as read, and the two bits above VMID. -/
theorem fields_wrap_hgatpMask :
    atpMode c (wrap c (w &&& hgatpMask c)) = atpMode c w ∧
      getField (wrap c (w &&& hgatpMask c)) (atpLayout c).idAt c.vmidMax =
        getField w (atpLayout c).idAt c.vmidMax % 2 ^ c.vmidLen ∧
      getField (wrap c (w &&& hgatpMask c)) ((atpLayout c).idAt + c.vmidMax) 2 = 0 ∧
      atpPpn c (wrap c (w &&& hgatpMask c)) = atpPpn c w % 2 ^ (c.palen - 12) / 4 * 4 := by
  have fits := vmid_fits valid
  have bits := getLsbD_wrap_hgatpMask valid w
  obtain ⟨mode, id⟩ := mode_and_id_of_bits fits (w := w) fun k hk => by rw [bits, decide_eq_true hk, Bool.true_and]
  rw [atpPpn_eq, atpPpn_eq]
  refine ⟨mode, id, ?_, getField_truncated_aligned fun k hk => ?_⟩
  · have ends := vmid_ends c
    obtain ⟨ppn, len, -, -, -, -⟩ := fits
    have unimplemented {k : Nat} (hk : k < 2) : atpImplemented c c.vmidLen ((atpLayout c).idAt + c.vmidMax + k) = false := by
      grind [atpImplemented]
    have zero : getField 0 ((atpLayout c).idAt + c.vmidMax) 2 = 0 := by simp [getField]
    exact (getField_congr fun k hk => by rw [bits, unimplemented hk]; simp).trans zero
  · rw [bits, atpImplemented_ppn fits hk, Bool.and_assoc]

end

/-! ### satp, vsatp and hgatp: writes -/

/-- An unsupported MODE leaves the register (R225). -/
theorem satpWrite_unsupported {c : Config} {v : Word} (h0 : atpMode c v ≠ 0) (h : atpMode c v ∉ c.satpModes) (old : Word) :
    satpWrite c old v = old := by
  simp [satpWrite, h0, h]

theorem satpWrite_supported {c : Config} {v : Word} (h : atpMode c v = 0 ∨ atpMode c v ∈ c.satpModes) (old : Word) :
    satpWrite c old v = v &&& satpMask c := by
  simp [satpWrite, h]

/-- The word a write of hgatp takes: the one written, with the old MODE where the new one is not supported (R290). -/
def withLegalMode (c : Config) (old v : Word) : Word :=
  if atpMode c v = 0 ∨ atpMode c v ∈ c.hgatpModes then v
  else merge (fieldMask (atpLayout c).modeAt (atpLayout c).modeLen) v old

theorem hgatpWrite_eq (c : Config) (old v : Word) : hgatpWrite c old v = withLegalMode c old v &&& hgatpMask c := by
  have modeMask : (if c.rv64 then fieldMask 60 4 else fieldMask 31 1) =
      fieldMask (atpLayout c).modeAt (atpLayout c).modeLen := by
    unfold atpLayout
    split <;> rfl
  simp [hgatpWrite, withLegalMode, modeMask]

/-- Below MODE the word is the one written. -/
theorem getField_withLegalMode {c : Config} (old v : Word) {lo len : Nat} (h : lo + len ≤ (atpLayout c).modeAt) :
    getField (withLegalMode c old v) lo len = getField v lo len := by
  unfold withLegalMode
  split
  · rfl
  · exact getField_merge_fieldMask_apart h v old

theorem mode_withLegalMode {c : Config} (valid : c.valid = true) (old v : Word) :
    atpMode c (withLegalMode c old v) =
      if atpMode c v = 0 ∨ atpMode c v ∈ c.hgatpModes then atpMode c v else atpMode c old := by
  obtain ⟨-, -, -, mode, xlen, -⟩ := asid_fits valid
  unfold withLegalMode
  split
  · rfl
  · simp only [atpMode_eq]
    exact getField_merge_fieldMask (by omega) v old

/-- A read of hgatp after a write. -/
theorem fields_csrRead_csrWrite_hgatp {s : State} (valid : s.cfg.valid = true) (v : Word) :
    let x := csrRead (csrWrite s .hgatp v) .hgatp
    let c := s.cfg
    atpMode c x = (if atpMode c v = 0 ∨ atpMode c v ∈ c.hgatpModes then atpMode c v else atpMode c (csrRead s .hgatp)) ∧
      getField x (atpLayout c).idAt c.vmidMax = getField v (atpLayout c).idAt c.vmidMax % 2 ^ c.vmidLen ∧
      getField x ((atpLayout c).idAt + c.vmidMax) 2 = 0 ∧
      atpPpn c x = atpPpn c v % 2 ^ (c.palen - 12) / 4 * 4 := by
  have stored : csrRead (csrWrite s .hgatp v) .hgatp =
      wrap s.cfg (withLegalMode s.cfg s.h.hgatp v &&& hgatpMask s.cfg) := by
    change wrap s.cfg (hgatpWrite s.cfg s.h.hgatp v &&& hgatpMask s.cfg) = _
    rw [hgatpWrite_eq, BitVec.and_assoc, BitVec.and_self]
  have old : atpMode s.cfg (csrRead s .hgatp) = atpMode s.cfg s.h.hgatp := (fields_wrap_hgatpMask valid _).1
  obtain ⟨mode, id, gap, ppn⟩ := fields_wrap_hgatpMask valid (withLegalMode s.cfg s.h.hgatp v)
  have fits := vmid_fits valid
  dsimp only
  rw [stored, mode, id, gap, ppn, old, mode_withLegalMode valid, atpPpn_eq, atpPpn_eq,
    getField_withLegalMode _ _ fits.idMax, getField_withLegalMode _ _ (by have := fits.idMax; omega)]
  exact ⟨rfl, rfl, rfl, rfl⟩

/-- A read of satp after a write of a supported MODE. -/
theorem fields_csrRead_of_satpWrite {c : Config} (valid : c.valid = true) {v : Word}
    (supported : atpMode c v = 0 ∨ atpMode c v ∈ c.satpModes) (old : Word) :
    let x := wrap c (satpWrite c old v &&& satpMask c)
    atpMode c x = atpMode c v ∧
      getField x (atpLayout c).idAt c.asidMax = getField v (atpLayout c).idAt c.asidMax % 2 ^ c.asidLen ∧
      atpPpn c x = atpPpn c v % 2 ^ (c.palen - 12) := by
  rw [satpWrite_supported supported, BitVec.and_assoc, BitVec.and_self]
  exact fields_wrap_satpMask valid v

/-- The two layouts as a statement writes them out. -/
theorem atpLayout_of_width {c : Config} {modeAt modeLen idAt asidMax vmidMax ppnLen : Nat}
    (h : (c.rv64 = true ∧ modeAt = 60 ∧ modeLen = 4 ∧ idAt = 44 ∧ asidMax = 16 ∧ vmidMax = 14 ∧ ppnLen = 44) ∨
      (c.rv64 = false ∧ modeAt = 31 ∧ modeLen = 1 ∧ idAt = 22 ∧ asidMax = 9 ∧ vmidMax = 7 ∧ ppnLen = 22)) :
    modeAt = (atpLayout c).modeAt ∧ modeLen = (atpLayout c).modeLen ∧ idAt = (atpLayout c).idAt ∧ asidMax = c.asidMax ∧
      vmidMax = c.vmidMax ∧ ppnLen = (atpLayout c).idAt := by
  unfold atpLayout Config.asidMax Config.vmidMax
  grind

/-! ### Trap vectors -/

theorem extractLsb'_low_eq_iff (w : Word) {n : Nat} (h : n < 4) :
    w.extractLsb' 0 2 = BitVec.ofNat 2 n ↔ getField w 0 2 = n := by
  rw [getField_eq_toNat, ← BitVec.toNat_inj, BitVec.toNat_ofNat, Nat.mod_eq_of_lt h]

/-- MODE of the word is one the trap vector has: Direct, or Vectored where it is supported (11_csr_machine R127). -/
def tvecTakes (vectored : Bool) (v : Word) : Bool := getField v 0 2 == 0 || (getField v 0 2 == 1 && vectored)

theorem tvecTakes_iff (vectored : Bool) (v : Word) :
    tvecTakes vectored v = true ↔ getField v 0 2 = 0 ∨ (getField v 0 2 = 1 ∧ vectored = true) := by
  simp [tvecTakes]

/-- The word `tvecWrite` forms before it applies the alignment of Vectored mode. -/
def tvecMerged (c : Config) (vectored : Bool) (base old v : Word) : Word :=
  wrap c (merge ((base &&& ~~~3) ||| maskIf (tvecTakes vectored v) 3) old v)

theorem tvecWrite_eq (c : Config) (vectored : Bool) (base vectoredBase old v : Word) :
    tvecWrite c vectored base vectoredBase old v =
      if getField (tvecMerged c vectored base old v) 0 2 = 1 then tvecMerged c vectored base old v &&& (vectoredBase ||| 3)
      else tvecMerged c vectored base old v := by
  have direct (w : Word) : w.extractLsb' 0 2 = 0 ↔ getField w 0 2 = 0 := extractLsb'_low_eq_iff w (by decide)
  have vect (w : Word) : w.extractLsb' 0 2 = 1 ↔ getField w 0 2 = 1 := extractLsb'_low_eq_iff w (by decide)
  simp only [tvecWrite, tvecMerged, maskIf, tvecTakes_iff, direct, vect]

/-- A supported MODE is taken, another leaves the old one. -/
theorem mode_tvecMerged (c : Config) (vectored : Bool) (base old v : Word) :
    getField (tvecMerged c vectored base old v) 0 2 = getField (if tvecTakes vectored v then v else old) 0 2 :=
  getField_congr fun k hk => by
    have low : 0 + k < c.xlen := lt_xlen_of_lt_32 c (by omega)
    simp only [tvecMerged, getLsbD_wrap, getLsbD_merge, BitVec.getLsbD_or, BitVec.getLsbD_and, BitVec.getLsbD_not,
      getLsbD_maskIf, getLsbD_three]
    grind

/-- The writable bits of BASE are taken, whatever the MODE (entry 4). -/
theorem getLsbD_tvecMerged (c : Config) (vectored : Bool) (base old v : Word) {k : Nat} (hk : 2 ≤ k) (hx : k < c.xlen) :
    (tvecMerged c vectored base old v).getLsbD k = if base.getLsbD k then v.getLsbD k else old.getLsbD k := by
  simp only [tvecMerged, getLsbD_wrap, getLsbD_merge, BitVec.getLsbD_or, BitVec.getLsbD_and, BitVec.getLsbD_not,
    getLsbD_maskIf, getLsbD_three]
  grind

/-- The alignment leaves MODE. -/
theorem mode_tvecWrite (c : Config) (vectored : Bool) (base vectoredBase old v : Word) :
    getField (tvecWrite c vectored base vectoredBase old v) 0 2 = getField (if tvecTakes vectored v then v else old) 0 2 := by
  rw [tvecWrite_eq, ← mode_tvecMerged c vectored base old v]
  split
  · exact getField_congr fun k hk => by
      rw [BitVec.getLsbD_and, BitVec.getLsbD_or, getLsbD_three]
      grind
  · rfl

/-- In Vectored mode the bits outside its alignment are cleared (entry 44). -/
theorem getLsbD_tvecWrite (c : Config) (vectored : Bool) (base vectoredBase old v : Word) {k : Nat} (hk : 2 ≤ k)
    (hx : k < c.xlen) :
    (tvecWrite c vectored base vectoredBase old v).getLsbD k =
      ((decide (getField (tvecWrite c vectored base vectoredBase old v) 0 2 ≠ 1) || vectoredBase.getLsbD k) &&
        if base.getLsbD k then v.getLsbD k else old.getLsbD k) := by
  rw [mode_tvecWrite, ← mode_tvecMerged c vectored base old v, ← getLsbD_tvecMerged c vectored base old v hk hx, tvecWrite_eq]
  split
  · rw [BitVec.getLsbD_and, BitVec.getLsbD_or, getLsbD_three]
    grind
  · grind

theorem mode_wrap (c : Config) (w : Word) : getField (wrap c w) 0 2 = getField w 0 2 :=
  getField_congr fun k hk => by
    have low : 0 + k < c.xlen := lt_xlen_of_lt_32 c (by omega)
    rw [getLsbD_wrap, decide_eq_true low, Bool.true_and]

/-- A trap vector read before and after a write: MODE, and the bits of BASE. -/
theorem tvec_read_after_write (c : Config) (vectored : Bool) (base vectoredBase stored v : Word) :
    let old := wrap c stored
    let new := wrap c (tvecWrite c vectored base vectoredBase stored v)
    let takes := getField v 0 2 = 0 ∨ (getField v 0 2 = 1 ∧ vectored = true)
    (takes → getField new 0 2 = getField v 0 2) ∧ (¬ takes → getField new 0 2 = getField old 0 2) ∧
    ∀ k, 2 ≤ k → k < c.xlen → new.getLsbD k =
      ((decide (getField new 0 2 ≠ 1) || vectoredBase.getLsbD k) && if base.getLsbD k then v.getLsbD k else old.getLsbD k) := by
  dsimp only
  rw [mode_wrap, mode_wrap, ← tvecTakes_iff]
  refine ⟨fun taken => ?_, fun kept => ?_, fun k hk hx => ?_⟩
  · rw [mode_tvecWrite, if_pos taken]
  · rw [mode_tvecWrite, if_neg kept]
  · rw [getLsbD_wrap, getLsbD_wrap, decide_eq_true hx, Bool.true_and, Bool.true_and]
    exact getLsbD_tvecWrite c vectored base vectoredBase stored v hk hx

/-! ### Exception pcs -/

theorem toNat_clear_low (v : Word) : (v &&& ~~~3).toNat = v.toNat / 4 * 4 := by
  have shifted : v &&& ~~~(3 : Word) = (v >>> 2) <<< 2 := by
    refine BitVec.eq_of_getLsbD_eq fun k hk => ?_
    rw [BitVec.getLsbD_and, BitVec.getLsbD_not, getLsbD_three, BitVec.getLsbD_shiftLeft, BitVec.getLsbD_ushiftRight]
    grind
  rw [shifted, BitVec.toNat_shiftLeft, BitVec.toNat_ushiftRight, Nat.shiftLeft_eq, Nat.shiftRight_eq_div_pow]
  omega

/-- mepc, sepc and vsepc clear their low bits on the write and on the read (11_csr_machine R150). -/
theorem toNat_epc_read_after_write (c : Config) (v : Word) :
    (wrap c (v &&& ~~~3 &&& ~~~3)).toNat = (wrap c v).toNat / 4 * 4 := by
  rw [BitVec.and_assoc, BitVec.and_self, toNat_wrap, toNat_wrap, toNat_clear_low]
  unfold Config.xlen
  split <;> omega

/-! ### A CSRRW that the access check lets pass -/

/-- pc + 4 as an integer modulo 2^XLEN (10_state R58). -/
theorem nextPc_eq_ofXlen (s : State) : nextPc s = ofXlen s.cfg (s.pc.toNat + 4) := by
  apply BitVec.eq_of_toNat_eq
  rw [nextPc, toNat_wrap, BitVec.toNat_add, ofXlen, BitVec.toNat_ofNat]
  change (s.pc.toNat + 4) % 2 ^ 64 % 2 ^ s.cfg.xlen = _
  unfold Config.xlen
  split <;> omega

theorem csrOp_permitted {i : Instr} {s : State} {addr : BitVec 12} {write : Bool} {r : Csr}
    (h : csrCheck s addr write = .ok r) (rd : Reg) (new : Word → Word) :
    csrOp i s rd addr write new = .ok ()
      (wX (if write then csrWrite (retire s) r (wrap s.cfg (new (csrOld s r))) else retire s) rd (csrRead s r)) := by
  simp only [csrOp, h]

/-- CSRRW retires, writes rs1 to the register and its old value to rd (43_zicsr R670). -/
theorem exec_csrrw {s : State} {rd rs1 : Reg} {addr : BitVec 12} {r : Csr}
    (available : (Instr.csrrw rd rs1 addr).available s.cfg = true) (h : csrCheck s addr true = .ok r) :
    exec (.csrrw rd rs1 addr) s = .next (wX (csrWrite (retire s) r (rX s rs1)) rd (csrRead s r)) := by
  have body : exec (.csrrw rd rs1 addr) s = run (.csrrw rd rs1 addr) s fun s =>
      csrOp (.csrrw rd rs1 addr) s rd addr true fun _ => rX s rs1 := rfl
  rw [body, run_available available, csrOp_permitted h, if_pos rfl, wrap_rX]
  rfl

/-- minstret: machine level, and no guard of its own. -/
theorem csrCheck_minstret {s : State} (hp : s.priv = .M) (hv : s.virt = false) (w : Bool) :
    csrCheck s 0xB02 w = .ok .minstret := by
  have unguarded : specialCheck s .minstret = none := by simp [specialCheck, csrCounter]
  rw [csrCheck_eq (r := .minstret) rfl rfl rfl, unguarded, Option.or_none]
  change (privCheck s 3).elim _ _ = _
  rw [privCheck_machine hp hv (by decide), hv]
  rfl

/-- At XLEN = 64 the whole counter is written, over the instruction's own count (11_csr_machine R142). -/
theorem csrWrite_minstret_retire {s : State} (h64 : s.cfg.rv64 = true) (v : Word) :
    csrWrite (retire s) .minstret v =
      { s with pc := ofXlen s.cfg (s.pc.toNat + 4), m := { s.m with minstret := v } } := by
  have pc : wrap s.cfg (nextPc s) = ofXlen s.cfg (s.pc.toNat + 4) := by rw [← nextPc_eq_ofXlen, nextPc, wrap_wrap]
  rw [← pc]
  unfold retire retireTo retireCount
  split <;> simp only [csrWrite, writeLow, setPc, h64, if_true]

/-! ### The obligation on the legal values of CSRs -/

/-- Settles O18: satp, vsatp and hgatp by their implemented bits, the trap vectors by `tvecWrite`, and the counter's own
count overwritten by the CSRRW. -/
theorem csrWritesLeaveLegalValues : Obligations.CsrWritesLeaveLegalValues := by
  unfold Obligations.CsrWritesLeaveLegalValues
  refine ⟨fun s v modeAt modeLen idAt asidMax vmidMax ppnLen => ?_, fun s v r vectored base vectoredBase regs => ?_,
    fun s v => ?_, fun s v => ?_, fun s rd rs1 h64 hp hv available => ?_⟩
  · intro mode tS tV tH h valid layout
    obtain ⟨rfl, rfl, rfl, rfl, rfl, rfl⟩ := atpLayout_of_width layout
    obtain ⟨modeH, idH, gapH, ppnH⟩ := fields_csrRead_csrWrite_hgatp valid v
    simp only [← atpMode_eq, ← atpPpn_eq, mode]
    refine ⟨fun bare unsupported => ?_, fun supported => ?_, fun bare unsupported => ?_, fun supported => ?_, idH, gapH, ppnH,
      rfl, rfl, rfl⟩
    · have kept := satpWrite_unsupported bare unsupported
      exact ⟨congrArg (fun w => { s with sv := { s.sv with satp := w } }) (kept s.sv.satp),
        congrArg (fun w => { s with vs := { s.vs with vsatp := w } }) (kept s.vs.vsatp)⟩
    · have read := fields_csrRead_of_satpWrite valid supported
      exact List.forall_mem_cons.2 ⟨read s.sv.satp, List.forall_mem_singleton.2 (read s.vs.vsatp)⟩
    · exact modeH.trans (if_neg (not_or.2 ⟨bare, unsupported⟩))
    · exact modeH.trans (if_pos supported)
  · have tvec := tvec_read_after_write s.cfg vectored base vectoredBase
    obtain ⟨rfl, rfl, rfl, rfl⟩ | ⟨rfl | rfl, rfl, rfl, rfl⟩ := regs
    · obtain ⟨taken, kept, bits⟩ := tvec s.m.mtvec v
      exact ⟨taken, kept, bits, rfl, fun h => absurd rfl h, fun _ => rfl, fun _ => rfl⟩
    · obtain ⟨taken, kept, bits⟩ := tvec s.sv.stvec v
      exact ⟨taken, kept, bits, rfl, fun _ => rfl, fun h => absurd rfl h, fun _ => rfl⟩
    · obtain ⟨taken, kept, bits⟩ := tvec s.vs.vstvec v
      exact ⟨taken, kept, bits, rfl, fun _ => rfl, fun _ => rfl, fun h => absurd rfl h⟩
  · have epc := toNat_epc_read_after_write s.cfg v
    exact ⟨epc, epc, epc⟩
  · exact ⟨toNat_writeLow .., toNat_writeLow .., toNat_writeHigh .., toNat_writeHigh ..⟩
  · have whole (w : Word) : wrap s.cfg w = w := wrap_of_high_zero (.inl h64)
    have old : csrRead s .minstret = s.m.minstret := whole _
    refine ⟨_, exec_csrrw available (csrCheck_minstret hp hv true), ?_⟩
    rw [csrWrite_minstret_retire h64, old]
    refine ⟨by rw [wX_m], fun r => ?_, by rw [wX_pc], fun a => by rw [wX_mem], ?_⟩
    · rw [rX_wX, whole]
      rfl
    · unfold sameRest wX
      split <;> rfl

end Sys2Proof.Machine
end

section
/-! PROOF. What a write of hstatus, vsstatus, the delegation registers, mtval, mip, menvcfg, senvcfg and henvcfg leaves, by the
bits of each register's mask. -/

namespace Sys2Proof.Machine

/-! ### Masks, and registers stored through one -/

/-- The bits of a constant, listed. -/
theorem getLsbD_of_bits {w : Word} {bits : List Nat} (h : ∀ k < 64, w.getLsbD k = decide (k ∈ bits)) (below : ∀ i ∈ bits, i < 64)
    (k : Nat) : w.getLsbD k = decide (k ∈ bits) := by
  by_cases hk : k < 64
  · exact h k hk
  · rw [BitVec.getLsbD_of_ge w k (Nat.le_of_not_lt hk)]
    exact (decide_eq_false fun mem => hk (below k mem)).symm

theorem getLsbD_wrap_low (c : Config) {w : Word} {k : Nat} (low : w.getLsbD k = true → k < 32) :
    (wrap c w).getLsbD k = w.getLsbD k := by
  rw [getLsbD_wrap]
  cases set : w.getLsbD k
  · exact Bool.and_false _
  · rw [decide_eq_true (lt_xlen_of_lt_32 c (low set)), Bool.true_and]

/-- What `merge` keeps of the old word is outside the mask. -/
theorem merge_and_mask (mask old v : Word) : merge mask old v &&& mask = v &&& mask :=
  BitVec.eq_of_getLsbD_eq fun k _ => by
    rw [BitVec.getLsbD_and, BitVec.getLsbD_and, getLsbD_merge]
    grind

/-- A register stored and read through a mask below bit 32. -/
theorem getLsbD_masked_write (c : Config) {mask : Word} {k : Nat} (low : mask.getLsbD k = true → k < 32) (v : Word) :
    (wrap c (v &&& mask &&& mask)).getLsbD k = (mask.getLsbD k && v.getLsbD k) := by
  rw [BitVec.and_assoc, BitVec.and_self, getLsbD_wrap_low c (by grind), BitVec.getLsbD_and, Bool.and_comm]

/-- A register whose other bits are fixed. -/
theorem getLsbD_merged_write (c : Config) {mask fixed : Word} {k : Nat}
    (writable : mask.getLsbD k = true → k < 32 ∧ fixed.getLsbD k = false) (old v : Word) :
    (wrap c (merge mask old v &&& mask ||| fixed)).getLsbD k =
      if mask.getLsbD k then v.getLsbD k else (wrap c (old &&& mask ||| fixed)).getLsbD k := by
  rw [merge_and_mask]
  cases set : mask.getLsbD k
  case true =>
    obtain ⟨low, free⟩ := writable set
    rw [getLsbD_wrap_low c fun _ => low]
    simp [set, free]
  case false => simp [getLsbD_wrap, set]

/-! ### hstatus and vsstatus -/

/-- `bitLength` is as long as a number below 64 needs: bit `i` of VGEIN is there when GEILEN reaches it (13_csr_hypervisor
R256). -/
theorem lt_bitLength_iff {n : Nat} (h : n < 64) (i : Nat) : i < bitLength n ↔ 2 ^ i ≤ n := by
  have six : n.size < 7 := Nat.lt_succ_of_le (Nat.size_le.2 h)
  have counted : ∀ m < 7, ((List.range 6).filter fun i => i < m).length = m := by decide
  have length : bitLength n = n.size := by simpa only [bitLength, ← Nat.lt_size] using counted n.size six
  rw [length, Nat.lt_size]

theorem valid_geiLen {c : Config} (h : c.valid = true) : c.geiLen < 64 := by
  simp only [Config.valid, Bool.and_eq_true, decide_eq_true_eq] at h
  unfold Config.xlen at h
  grind

theorem getLsbD_vgeinMask {c : Config} (valid : c.valid = true) (k : Nat) :
    (vgeinMask c).getLsbD k = decide (12 ≤ k ∧ 2 ^ (k - 12) ≤ c.geiLen) := by
  have implemented : 12 ≤ k → (k < 12 + bitLength c.geiLen ↔ 2 ^ (k - 12) ≤ c.geiLen) := fun hk => by
    rw [← lt_bitLength_iff (valid_geiLen valid)]
    omega
  have six : bitLength c.geiLen ≤ 6 := List.length_filter_le ..
  rw [vgeinMask, getLsbD_fieldMask, VGEIN]
  grind

theorem getLsbD_writeMask (e : EndianBit) {i : Nat} (hi : i < 64) (k : Nat) :
    (EndianBit.writeMask e i).getLsbD k = decide (k = i ∧ e = .writable) := by
  rw [EndianBit.writeMask, getLsbD_maskIf, getLsbD_bitMask hi]
  cases e <;> simp

theorem getLsbD_fixed (e : EndianBit) {i : Nat} (hi : i < 64) (k : Nat) :
    (EndianBit.fixed e i).getLsbD k = decide (k = i ∧ e = .one) := by
  rw [EndianBit.fixed, getLsbD_maskIf, getLsbD_bitMask hi]
  cases e <;> simp

theorem getLsbD_hstatusMask {c : Config} (valid : c.valid = true) (k : Nat) :
    (hstatusMask c).getLsbD k = decide (k ∈ [6, 7, 8, 9, 20, 21, 22] ∨ (12 ≤ k ∧ 2 ^ (k - 12) ≤ c.geiLen) ∨
      (k = 5 ∧ c.vsbe = .writable)) := by
  simp (disch := decide) only [hstatusMask, BitVec.getLsbD_or, getLsbD_bitMask, getLsbD_vgeinMask valid, getLsbD_writeMask]
  simp only [HGVA, SPV, SPVP, HU, VTVM, VTW, VTSR, VSBE]
  grind

theorem getLsbD_hstatusFixed (c : Config) (k : Nat) :
    (hstatusFixed c).getLsbD k = (c.rv64 && decide (k = 33) || decide (k = 5 ∧ c.vsbe = .one)) := by
  have vsxl : (2 <<< VSXL : Word).getLsbD k = decide (k = 33) := getLsbD_bitMask (i := 33) (by decide) k
  rw [hstatusFixed, BitVec.getLsbD_or, getLsbD_maskIf, vsxl, getLsbD_fixed _ (by decide), VSBE]

theorem getLsbD_vsstatusMask (c : Config) (k : Nat) :
    (vsstatusMask c).getLsbD k = decide (k ∈ [1, 5, 8, 18, 19] ∨ (k = 6 ∧ c.vsube = .writable)) := by
  simp (disch := decide) only [vsstatusMask, BitVec.getLsbD_or, getLsbD_bitMask, getLsbD_writeMask]
  simp only [SIE, SPIE, SPP, SUM, MXR, UBE]
  grind

theorem getLsbD_vsstatusFixed (c : Config) (k : Nat) :
    (vsstatusFixed c).getLsbD k = (c.rv64 && decide (k = 33) || decide (k = 6 ∧ c.vsube = .one)) := by
  rw [vsstatusFixed, BitVec.getLsbD_or, getLsbD_maskIf, getLsbD_mstatusFixed_uxl, getLsbD_fixed _ (by decide), UBE]

/-- A write of hstatus changes its writable bits and no other (13_csr_hypervisor R254 to R263). -/
theorem csrRead_csrWrite_hstatus {s : State} (valid : s.cfg.valid = true) (v : Word) (k : Nat) :
    (csrRead (csrWrite s .hstatus v) .hstatus).getLsbD k =
      if k ∈ [6, 7, 8, 9, 20, 21, 22] ∨ (12 ≤ k ∧ 2 ^ (k - 12) ≤ s.cfg.geiLen) ∨ (k = 5 ∧ s.cfg.vsbe = .writable)
      then v.getLsbD k else (csrRead s .hstatus).getLsbD k := by
  have vgein_low : 12 ≤ k → 2 ^ (k - 12) ≤ s.cfg.geiLen → k < 18 := fun hk h => by
    have := (lt_bitLength_iff (valid_geiLen valid) _).2 h
    have : bitLength s.cfg.geiLen ≤ 6 := List.length_filter_le ..
    omega
  have written := getLsbD_merged_write s.cfg (mask := hstatusMask s.cfg) (fixed := hstatusFixed s.cfg) (k := k)
    (by rw [getLsbD_hstatusMask valid, getLsbD_hstatusFixed]; grind) s.h.hstatus v
  simp only [getLsbD_hstatusMask valid, decide_eq_true_eq] at written
  exact written

/-- A write of vsstatus likewise (13_csr_hypervisor R312). -/
theorem csrRead_csrWrite_vsstatus (s : State) (v : Word) (k : Nat) :
    (csrRead (csrWrite s .vsstatus v) .vsstatus).getLsbD k =
      if k ∈ [1, 5, 8, 18, 19] ∨ (k = 6 ∧ s.cfg.vsube = .writable) then v.getLsbD k
      else (csrRead s .vsstatus).getLsbD k := by
  have written := getLsbD_merged_write s.cfg (mask := vsstatusMask s.cfg) (fixed := vsstatusFixed s.cfg) (k := k)
    (by rw [getLsbD_vsstatusMask, getLsbD_vsstatusFixed]; grind) s.vs.vsstatus v
  simp only [getLsbD_vsstatusMask, decide_eq_true_eq] at written
  exact written

/-! ### Delegation -/

theorem getLsbD_medelegMask (c : Config) (k : Nat) :
    (medelegMask c).getLsbD k =
      ((decide (k ∈ [0, 1, 2, 3, 4, 5, 6, 7, 8, 9, 12, 13, 15]) || (c.hasH && decide (k ∈ [10, 20, 21, 22, 23]))) &&
        c.medelegMask.getLsbD k) := by
  rw [medelegMask, BitVec.getLsbD_and, BitVec.getLsbD_or, getLsbD_maskIf,
    getLsbD_of_bits (w := 0xB3FF) (bits := [0, 1, 2, 3, 4, 5, 6, 7, 8, 9, 12, 13, 15]) (by decide) (by decide),
    getLsbD_of_bits (w := 0xF00400) (bits := [10, 20, 21, 22, 23]) (by decide) (by decide)]

theorem getLsbD_hedelegMask (c : Config) (k : Nat) :
    (hedelegMask c).getLsbD k =
      (decide (k ∈ [0, 1, 2, 3, 4, 5, 6, 7, 8, 12, 13, 15]) && c.hedelegMask.getLsbD k) := by
  rw [hedelegMask, BitVec.getLsbD_and,
    getLsbD_of_bits (w := 0xB1FF) (bits := [0, 1, 2, 3, 4, 5, 6, 7, 8, 12, 13, 15]) (by decide) (by decide)]

/-- The VS-level interrupts: SSIP, STIP and SEIP, one bit up. -/
theorem getLsbD_vsInterrupts (k : Nat) : (0x444 : Word).getLsbD k = decide (k ∈ [2, 6, 10]) :=
  getLsbD_of_bits (by decide) (by decide) k

/-- The S-level interrupts. -/
theorem getLsbD_sInterrupts (k : Nat) : (0x222 : Word).getLsbD k = decide (k ∈ [1, 5, 9]) :=
  getLsbD_of_bits (by decide) (by decide) k

theorem getLsbD_midelegMask (c : Config) (k : Nat) :
    (midelegMask c).getLsbD k = (decide (k ∈ [1, 5, 9]) && c.midelegMask.getLsbD k) := by
  rw [midelegMask, BitVec.getLsbD_and, getLsbD_sInterrupts]

theorem getLsbD_midelegOnes (c : Config) (k : Nat) :
    (midelegOnes c).getLsbD k =
      (c.hasH && (decide (k ∈ [2, 6, 10]) || (decide (k = 12) && c.geiLen != 0))) := by
  have sgei : (0x1000 : Word).getLsbD k = decide (k = 12) := getLsbD_bitMask (i := 12) (by decide) k
  rw [midelegOnes, getLsbD_maskIf, BitVec.getLsbD_or, getLsbD_maskIf, getLsbD_vsInterrupts, sgei,
    Bool.and_comm (c.geiLen != 0)]

theorem csrRead_csrWrite_medeleg (s : State) (v : Word) (k : Nat) :
    (csrRead (csrWrite s .medeleg v) .medeleg).getLsbD k = ((medelegMask s.cfg).getLsbD k && v.getLsbD k) :=
  getLsbD_masked_write s.cfg
    (by
      have exceptions : ∀ i ∈ [0, 1, 2, 3, 4, 5, 6, 7, 8, 9, 12, 13, 15], i < 32 := by decide
      have guest : ∀ i ∈ [10, 20, 21, 22, 23], i < 32 := by decide
      rw [getLsbD_medelegMask]
      grind) v

theorem csrRead_csrWrite_hedeleg (s : State) (v : Word) (k : Nat) :
    (csrRead (csrWrite s .hedeleg v) .hedeleg).getLsbD k = ((hedelegMask s.cfg).getLsbD k && v.getLsbD k) :=
  getLsbD_masked_write s.cfg
    (by
      have exceptions : ∀ i ∈ [0, 1, 2, 3, 4, 5, 6, 7, 8, 12, 13, 15], i < 32 := by decide
      rw [getLsbD_hedelegMask]
      grind) v

theorem csrRead_csrWrite_hideleg (s : State) (v : Word) (k : Nat) :
    (csrRead (csrWrite s .hideleg v) .hideleg).getLsbD k = (decide (k ∈ [2, 6, 10]) && v.getLsbD k) := by
  rw [← getLsbD_vsInterrupts]
  exact getLsbD_masked_write s.cfg (mask := 0x444) (by rw [getLsbD_vsInterrupts]; grind) v

/-- mideleg has its read-only ones besides (13_csr_hypervisor R301). -/
theorem csrRead_csrWrite_mideleg (s : State) (v : Word) (k : Nat) :
    (csrRead (csrWrite s .mideleg v) .mideleg).getLsbD k =
      ((midelegMask s.cfg).getLsbD k && v.getLsbD k || (midelegOnes s.cfg).getLsbD k) := by
  change (wrap s.cfg (v &&& midelegMask s.cfg &&& midelegMask s.cfg ||| midelegOnes s.cfg)).getLsbD k = _
  rw [BitVec.and_assoc, BitVec.and_self, getLsbD_wrap_low, BitVec.getLsbD_or, BitVec.getLsbD_and, Bool.and_comm]
  rw [BitVec.getLsbD_or, BitVec.getLsbD_and, getLsbD_midelegMask, getLsbD_midelegOnes]
  grind

/-! ### mtval -/

theorem mtvalWritable_of_none {c : Config} (h : ∀ code, c.xtvalMask.getLsbD code = false) : c.mtvalWritable = false :=
  List.any_eq_false.2 fun code _ => by simp [Config.informative, h]

theorem mtvalWritable_of_some {c : Config} {code : Nat} (raised : code ∈ [0, 1, 2, 3, 5, 7])
    (h : c.xtvalMask.getLsbD code = true) : c.mtvalWritable = true :=
  List.any_eq_true.2 ⟨code, by simp only [Config.informativeCauses, List.mem_append]; tauto, h⟩

theorem csrRead_mtval (s : State) : csrRead s .mtval = wrap s.cfg (if s.cfg.mtvalWritable then s.m.mtval else 0) := rfl

theorem csrWrite_mtval (s : State) (v : Word) :
    csrWrite s .mtval v = if s.cfg.mtvalWritable then { s with m := { s.m with mtval := v } } else s := rfl

/-! ### mip -/

/-- Each bit that is or'ed in stands for itself. -/
theorem getLsbD_foldr_bits (f : Nat → Bool) {is : List Nat} (below : ∀ i ∈ is, i < 64) (k : Nat) :
    (is.foldr (fun i w => w ||| boolWord (f i) <<< i) 0).getLsbD k = (decide (k ∈ is) && f k) := by
  induction is with
  | nil => simp
  | cons i is ih =>
    have shifted : (boolWord (f i) <<< i).getLsbD k = (decide (k = i) && f i) := by
      have hi := below i List.mem_cons_self
      cases f i
      · simp [boolWord]
      · have one (j : Nat) : (1 : Word).getLsbD j = decide (j = 0) := getLsbD_bitMask (i := 0) (by decide) j
        simp only [boolWord, if_true, BitVec.getLsbD_shiftLeft, one]
        grind
    rw [List.foldr_cons, BitVec.getLsbD_or, ih fun j hj => below j (List.mem_cons_of_mem i hj), shifted]
    grind

/-- mip has no bit but the pending interrupts of R851. -/
theorem mipBit_of_other (s : State) {k : Nat} (h : k ∉ [1, 2, 3, 5, 6, 7, 9, 10, 11, 12]) : mipBit s k = false := by
  simp only [List.mem_cons, List.not_mem_nil, or_false, not_or] at h
  simp [mipBit, h]

theorem getLsbD_csrRead_mip (s : State) (k : Nat) : (csrRead s .mip).getLsbD k = mipBit s k := by
  have read : (mipRead s).getLsbD k = mipBit s k := by
    rw [mipRead, getLsbD_foldr_bits (mipBit s) (by decide)]
    by_cases h : k ∈ [1, 2, 3, 5, 6, 7, 9, 10, 11, 12]
    · rw [decide_eq_true h, Bool.true_and]
    · rw [mipBit_of_other s h, Bool.and_false]
  rw [← read]
  refine getLsbD_wrap_low s.cfg fun set => ?_
  by_contra high
  have other : k ∉ [1, 2, 3, 5, 6, 7, 9, 10, 11, 12] := fun mem => high ((by decide : ∀ i ∈ _, i < 32) k mem)
  exact Bool.false_ne_true ((mipBit_of_other s other).symm.trans (read.symm.trans set))

theorem getLsbD_mipStored (s : State) (k : Nat) :
    (mipStored s).getLsbD k = (s.cfg.hasS && (s.m.mip.getLsbD k && decide (k ∈ [1, 5, 9]))) := by
  rw [mipStored, getLsbD_maskIf, BitVec.getLsbD_and, getLsbD_sInterrupts]

theorem getLsbD_hvipRead (s : State) (k : Nat) :
    (hvipRead s).getLsbD k = (s.h.hvip.getLsbD k && decide (k ∈ [2, 6, 10])) := by
  rw [hvipRead, BitVec.getLsbD_and, getLsbD_vsInterrupts]

/-- The external line is in SEIP alone. -/
theorem mipBit_sei (s : State) (b : Bool) (k : Nat) :
    mipBit { s with plat := { s.plat with sei := b } } k =
      if k = 9 then s.cfg.hasS && ((mipStored s).getLsbD 9 || b) else mipBit s k := by
  split
  case isTrue h => subst h; rfl
  case isFalse h =>
    simp only [mipBit, if_neg h]
    rfl

/-- What a set or clear of mip starts from (11_csr_machine R137). -/
theorem csrOld_mip (s : State) : csrOld s .mip = csrRead { s with plat := { s.plat with sei := false } } .mip := by
  refine BitVec.eq_of_getLsbD_eq fun k _ => ?_
  rw [csrOld, getLsbD_merge, getLsbD_bitMask (by decide), getLsbD_csrRead_mip, getLsbD_csrRead_mip, mipBit_sei s false]
  by_cases h : k = 9
  · subst h
    simp only [decide_true, if_true, Bool.or_false, getLsbD_mipStored, ← Bool.and_assoc, Bool.and_self]
  · simp only [decide_eq_true_eq, if_neg h]

/-- What a write of mip changes. -/
theorem setMip_eq (s : State) (v : Word) :
    setMip s v = { s with m := { s.m with mip := if s.cfg.hasS then merge 0x222 s.m.mip v else s.m.mip }
                          h := { s.h with hvip := if s.cfg.hasH then merge 4 s.h.hvip v else s.h.hvip } } := by
  unfold setMip setHvip
  cases s.cfg.hasS <;> cases s.cfg.hasH <;> rfl

/-- A write of mip takes SSIP, STIP and the software part of SEIP (11_csr_machine R141). -/
theorem mipStored_setMip (s : State) (v : Word) (k : Nat) :
    (mipStored (setMip s v)).getLsbD k = (s.cfg.hasS && (decide (k ∈ [1, 5, 9]) && v.getLsbD k)) := by
  rw [getLsbD_mipStored, setMip_eq]
  cases s.cfg.hasS
  · rfl
  · simp only [if_true, getLsbD_merge, getLsbD_sInterrupts]
    grind

/-- Of hvip a write of mip reaches VSSIP only (13_csr_hypervisor R304). -/
theorem hvipRead_setMip (s : State) (v : Word) (k : Nat) :
    (hvipRead (setMip s v)).getLsbD k =
      if k = 2 ∧ s.cfg.hasH = true then v.getLsbD 2 else (hvipRead s).getLsbD k := by
  have vssip : (4 : Word).getLsbD k = decide (k = 2) := getLsbD_bitMask (i := 2) (by decide) k
  rw [getLsbD_hvipRead, getLsbD_hvipRead, setMip_eq]
  cases s.cfg.hasH
  · simp
  · simp only [if_true, getLsbD_merge, vssip]
    grind

/-- mip after a write; SEIP is the OR with the external line. -/
theorem mipBit_setMip (s : State) (v : Word) (k : Nat) :
    mipBit (setMip s v) k =
      if k = 1 ∨ k = 5 then s.cfg.hasS && v.getLsbD k
      else if k = 9 then s.cfg.hasS && (v.getLsbD 9 || s.plat.sei)
      else if k = 2 then s.cfg.hasH && v.getLsbD 2
      else mipBit s k := by
  have mtip_kept : mtip (setMip s v) = mtip s := by rw [setMip_eq]; rfl
  have vgein_kept : vgeinPending (setMip s v) = vgeinPending s := by rw [setMip_eq]; rfl
  have hgeip_kept : hgeipRead (setMip s v) = hgeipRead s := by rw [setMip_eq]; rfl
  have hgeie_kept : hgeieRead (setMip s v) = hgeieRead s := by rw [setMip_eq]; rfl
  split_ifs with stored seip vssip
  · obtain rfl | rfl := stored
    · exact mipStored_setMip s v 1
    · exact mipStored_setMip s v 5
  · subst seip
    change ((setMip s v).cfg.hasS && ((mipStored (setMip s v)).getLsbD 9 || (setMip s v).plat.sei)) = _
    rw [mipStored_setMip, setMip_cfg, setMip_plat]
    cases s.cfg.hasS <;> rfl
  · subst vssip
    change (if (setMip s v).cfg.hasH then (hvipRead (setMip s v)).getLsbD 2 else false) = _
    rw [hvipRead_setMip, setMip_cfg]
    cases s.cfg.hasH <;> rfl
  · have apart : ¬ (k = 5 || k = 1) = true := by grind
    have vstip : k = 6 ∨ k = 2 → (hvipRead (setMip s v)).getLsbD k = (hvipRead s).getLsbD k := fun _ => by
      rw [hvipRead_setMip, if_neg (by grind)]
    have vseip : (hvipRead (setMip s v)).getLsbD 10 = (hvipRead s).getLsbD 10 := by
      rw [hvipRead_setMip, if_neg (by grind)]
    simp only [mipBit, if_neg seip, mtip_kept, vgein_kept, hgeip_kept, hgeie_kept, vseip, setMip_cfg, setMip_plat]
    grind

/-! ### menvcfg, senvcfg and henvcfg -/

/-- The mask of FIOM and PBMTE, each where it is implemented; menvcfg and henvcfg share it. -/
def envcfgMask (fiom pbmte : Bool) : Word := maskIf fiom (bitMask 0) ||| maskIf pbmte (bitMask 62)

theorem menvcfgMask_eq (c : Config) : menvcfgMask c = envcfgMask c.fiomWritable c.extSvpbmt := rfl

theorem henvcfgMask_eq (s : State) : henvcfgMask s = envcfgMask s.cfg.fiomWritable (menvcfgPbmte s) := rfl

theorem getLsbD_envcfgMask (fiom pbmte : Bool) (k : Nat) :
    (envcfgMask fiom pbmte).getLsbD k = (decide (k = 0) && fiom || decide (k = 62) && pbmte) := by
  simp (disch := decide) only [envcfgMask, BitVec.getLsbD_or, getLsbD_maskIf, getLsbD_bitMask, Bool.and_comm]

/-- Svpbmt takes RV64 and paging, hence U-mode. -/
theorem valid_svpbmt {c : Config} (h : c.valid = true) (svpbmt : c.extSvpbmt = true) : c.rv64 = true ∧ c.hasU = true := by
  simp only [Config.valid, Config.hasPaging, Bool.and_eq_true] at h
  grind

theorem svpbmt_of_rv32 {c : Config} (h : c.valid = true) (h32 : c.rv64 = false) : c.extSvpbmt = false := by
  by_contra svpbmt
  have h64 := (valid_svpbmt h (Bool.eq_true_of_not_eq_false svpbmt)).1
  rw [h32] at h64
  exact Bool.false_ne_true h64

theorem menvcfgPbmte_svpbmt {s : State} (h : menvcfgPbmte s = true) : s.cfg.extSvpbmt = true := by
  simp only [menvcfgPbmte, Bool.and_eq_true] at h
  exact h.1.1

section
variable {c : Config} {fiom pbmte : Bool} (wide : pbmte = true → c.rv64 = true)
include wide

/-- PBMTE being on RV64 only, XLEN hides no implemented bit. -/
theorem getLsbD_wrap_envcfg (w : Word) (k : Nat) :
    (wrap c (w &&& envcfgMask fiom pbmte)).getLsbD k =
      (decide (k = 0) && (fiom && w.getLsbD 0) || decide (k = 62) && pbmte && w.getLsbD 62) := by
  rw [getLsbD_wrap, BitVec.getLsbD_and, getLsbD_envcfgMask]
  unfold Config.xlen
  grind

/-- A write of XLEN bits reaches them all. -/
theorem getLsbD_envcfg_writeLow (old v : Word) (k : Nat) :
    (wrap c (writeLow c old v &&& envcfgMask fiom pbmte)).getLsbD k =
      (decide (k = 0) && (fiom && v.getLsbD 0) || decide (k = 62) && pbmte && v.getLsbD 62) := by
  rw [getLsbD_wrap_envcfg wide]
  unfold writeLow
  split
  · rfl
  · simp only [getLsbD_merge, getLsbD_fieldMask]
    grind

end

/-- On RV32 no bit of the high halves is implemented, and a write of one reaches nothing. -/
theorem envcfg_writeHigh (fiom : Bool) (old v : Word) :
    writeHigh old v &&& envcfgMask fiom false = old &&& envcfgMask fiom false := by
  refine BitVec.eq_of_getLsbD_eq fun k _ => ?_
  simp only [BitVec.getLsbD_and, writeHigh, getLsbD_merge, getLsbD_fieldMask, getLsbD_envcfgMask]
  grind

theorem getLsbD_wrap_envcfg_high (c : Config) (fiom : Bool) (w : Word) (k : Nat) :
    (wrap c (high32 (w &&& envcfgMask fiom false))).getLsbD k = false := by
  rw [getLsbD_wrap, getLsbD_high32, BitVec.getLsbD_and, getLsbD_envcfgMask]
  grind

/-- PBMTE of menvcfg as read is the bit the hart uses. -/
theorem pbmte_csrRead_menvcfg {s : State} (valid : s.cfg.valid = true) :
    (csrRead s .menvcfg).getLsbD 62 = menvcfgPbmte s := by
  have wide : s.cfg.extSvpbmt = true → s.cfg.rv64 = true := fun h => (valid_svpbmt valid h).1
  have user : s.cfg.extSvpbmt = true → s.cfg.hasU = true := fun h => (valid_svpbmt valid h).2
  refine (getLsbD_wrap_envcfg wide s.m.menvcfg 62).trans ?_
  unfold menvcfgPbmte
  grind

/-- What a write of menvcfg does: henvcfg changes at most in PBMTE, and only when menvcfg.PBMTE does (R162). -/
theorem setMenvcfg_cases (s : State) (v : Word) :
    ∃ (henvcfg : Word) (draws : Nat),
      setMenvcfg s v = { s with m := { s.m with menvcfg := merge (menvcfgMask s.cfg) s.m.menvcfg v }
                                h := { s.h with henvcfg := henvcfg }, draws := draws } ∧
        ∀ k, k ≠ 62 ∨ menvcfgPbmte (setMenvcfg s v) = menvcfgPbmte s → henvcfg.getLsbD k = s.h.henvcfg.getLsbD k := by
  have set62 (b : Bool) {k : Nat} (h : k ≠ 62) : (setBit s.h.henvcfg 62 b).getLsbD k = s.h.henvcfg.getLsbD k := by
    rw [getLsbD_setBit _ _ _ _ (by decide), if_neg h]
  unfold setMenvcfg
  dsimp only
  split
  · exact ⟨s.h.henvcfg, s.draws, rfl, fun _ _ => rfl⟩
  · next changed =>
    simp only [Bool.or_eq_true, not_or, beq_iff_eq] at changed
    split <;> exact ⟨_, _, rfl, fun k h => set62 _ (h.resolve_right changed.2)⟩

theorem setMenvcfg_menvcfg (s : State) (v : Word) :
    (setMenvcfg s v).m.menvcfg = merge (menvcfgMask s.cfg) s.m.menvcfg v := by
  obtain ⟨_, _, h, -⟩ := setMenvcfg_cases s v
  rw [h]

/-- It changes nothing else. -/
theorem setMenvcfg_frame (s : State) (v : Word) :
    setMenvcfg s v = { s with m := { s.m with menvcfg := (setMenvcfg s v).m.menvcfg }
                              h := { s.h with henvcfg := (setMenvcfg s v).h.henvcfg }, draws := (setMenvcfg s v).draws } := by
  obtain ⟨_, _, h, -⟩ := setMenvcfg_cases s v
  rw [h]

theorem getLsbD_setMenvcfg_henvcfg (s : State) (v : Word) {k : Nat}
    (h : k ≠ 62 ∨ menvcfgPbmte (setMenvcfg s v) = menvcfgPbmte s) :
    (setMenvcfg s v).h.henvcfg.getLsbD k = s.h.henvcfg.getLsbD k := by
  obtain ⟨henvcfg, _, written, kept⟩ := setMenvcfg_cases s v
  exact Eq.trans (by rw [written]) (kept k h)

/-- menvcfg as read after a write of either half. -/
theorem csrRead_setMenvcfg (s : State) (v : Word) :
    csrRead (setMenvcfg s v) .menvcfg = wrap s.cfg (v &&& menvcfgMask s.cfg) ∧
      csrRead (setMenvcfg s v) .menvcfgh = wrap s.cfg (high32 (v &&& menvcfgMask s.cfg)) := by
  rw [← merge_and_mask _ s.m.menvcfg v, ← setMenvcfg_menvcfg]
  change wrap (setMenvcfg s v).cfg (_ &&& menvcfgMask (setMenvcfg s v).cfg) = _ ∧
    wrap (setMenvcfg s v).cfg (high32 (_ &&& menvcfgMask (setMenvcfg s v).cfg)) = _
  rw [setMenvcfg_cfg]
  exact ⟨rfl, rfl⟩

/-- Reads of menvcfg and menvcfgh after their writes (11_csr_machine R160 to R163). -/
theorem csrRead_csrWrite_menvcfg {s : State} (valid : s.cfg.valid = true) (v : Word) (k : Nat) :
    (csrRead (csrWrite s .menvcfg v) .menvcfg).getLsbD k =
      (decide (k = 0) && (s.cfg.fiomWritable && v.getLsbD 0) || decide (k = 62) && s.cfg.extSvpbmt && v.getLsbD 62) := by
  rw [csrWrite, (csrRead_setMenvcfg s _).1]
  exact getLsbD_envcfg_writeLow (fun h => (valid_svpbmt valid h).1) s.m.menvcfg v k

theorem csrRead_csrWrite_menvcfgh {s : State} (valid : s.cfg.valid = true) (h32 : s.cfg.rv64 = false) (v : Word) (k : Nat) :
    (csrRead (csrWrite s .menvcfgh v) .menvcfgh).getLsbD k = false ∧
      csrRead (csrWrite s .menvcfgh v) .menvcfg = csrRead s .menvcfg := by
  have fiomOnly : menvcfgMask s.cfg = envcfgMask s.cfg.fiomWritable false := by
    rw [menvcfgMask_eq, svpbmt_of_rv32 valid h32]
  obtain ⟨low, high⟩ := csrRead_setMenvcfg s (writeHigh s.m.menvcfg v)
  rw [csrWrite, low, high, fiomOnly, envcfg_writeHigh, ← fiomOnly]
  refine ⟨?_, rfl⟩
  rw [fiomOnly]
  exact getLsbD_wrap_envcfg_high ..

/-- FIOM alone (12_csr_supervisor R222). -/
theorem csrRead_csrWrite_senvcfg (s : State) (v : Word) (k : Nat) :
    (csrRead (csrWrite s .senvcfg v) .senvcfg).getLsbD k = (decide (k = 0) && (s.cfg.fiomWritable && v.getLsbD 0)) := by
  have mask : (senvcfgMask s.cfg).getLsbD k = (s.cfg.fiomWritable && decide (k = 0)) := by
    rw [senvcfgMask, getLsbD_maskIf, getLsbD_bitMask (by decide)]
  refine (getLsbD_masked_write s.cfg (by rw [mask]; grind) v).trans ?_
  rw [mask]
  grind

/-- henvcfg after a write: PBMTE is taken while menvcfg.PBMTE is set (13_csr_hypervisor R281). -/
theorem csrRead_csrWrite_henvcfg {s : State} (valid : s.cfg.valid = true) (v : Word) (k : Nat) :
    (csrRead (csrWrite s .henvcfg v) .henvcfg).getLsbD k =
      (decide (k = 0) && (s.cfg.fiomWritable && v.getLsbD 0) || decide (k = 62) && menvcfgPbmte s && v.getLsbD 62) := by
  change (wrap s.cfg (merge (henvcfgMask s) s.h.henvcfg (writeLow s.cfg s.h.henvcfg v) &&& henvcfgMask s)).getLsbD k = _
  rw [merge_and_mask]
  exact getLsbD_envcfg_writeLow (fun h => (valid_svpbmt valid (menvcfgPbmte_svpbmt h)).1) s.h.henvcfg v k

/-- Of henvcfgh no bit is there on RV32. -/
theorem csrRead_csrWrite_henvcfgh {s : State} (valid : s.cfg.valid = true) (h32 : s.cfg.rv64 = false) (v : Word) (k : Nat) :
    (csrRead (csrWrite s .henvcfgh v) .henvcfgh).getLsbD k = false ∧
      csrRead (csrWrite s .henvcfgh v) .henvcfg = csrRead s .henvcfg := by
  have fiomOnly : henvcfgMask s = envcfgMask s.cfg.fiomWritable false := by
    rw [henvcfgMask_eq, menvcfgPbmte, svpbmt_of_rv32 valid h32]
    rfl
  change (wrap s.cfg (high32 (merge (henvcfgMask s) s.h.henvcfg _ &&& henvcfgMask s))).getLsbD k = false ∧
    wrap s.cfg (merge (henvcfgMask s) s.h.henvcfg _ &&& henvcfgMask s) = wrap s.cfg (s.h.henvcfg &&& henvcfgMask s)
  rw [merge_and_mask, fiomOnly, envcfg_writeHigh]
  exact ⟨getLsbD_wrap_envcfg_high .., rfl⟩

/-- henvcfg as read: FIOM where it is writable, and PBMTE while menvcfg.PBMTE is set (13_csr_hypervisor R281). -/
theorem getLsbD_csrRead_henvcfg {s : State} (valid : s.cfg.valid = true) (k : Nat) :
    (csrRead s .henvcfg).getLsbD k =
      (decide (k = 0) && (s.cfg.fiomWritable && s.h.henvcfg.getLsbD 0) ||
        decide (k = 62) && menvcfgPbmte s && s.h.henvcfg.getLsbD 62) :=
  getLsbD_wrap_envcfg (fun h => (valid_svpbmt valid (menvcfgPbmte_svpbmt h)).1) s.h.henvcfg k

/-- A write of menvcfg leaves henvcfg but for PBMTE, and PBMTE too while its own does not change. -/
theorem csrRead_henvcfg_csrWrite_menvcfg {s : State} (valid : s.cfg.valid = true) (v : Word) {k : Nat}
    (h : k ≠ 62 ∨ menvcfgPbmte (csrWrite s .menvcfg v) = menvcfgPbmte s) :
    (csrRead (csrWrite s .menvcfg v) .henvcfg).getLsbD k = (csrRead s .henvcfg).getLsbD k := by
  have kept := getLsbD_setMenvcfg_henvcfg s (writeLow s.cfg s.m.menvcfg v) h
  rw [getLsbD_csrRead_henvcfg valid, getLsbD_csrRead_henvcfg (by rwa [csrWrite_cfg]), csrWrite_cfg]
  change (_ && (_ && (setMenvcfg s _).h.henvcfg.getLsbD 0) || _ && menvcfgPbmte (csrWrite s .menvcfg v) &&
    (setMenvcfg s _).h.henvcfg.getLsbD 62) = _
  grind

/-! ### The obligation on the write masks -/

/-- Settles O19: each register's read after a write, by the bits of its mask. -/
theorem csrWriteMasks : Obligations.CsrWriteMasks := by
  unfold Obligations.CsrWriteMasks
  intro s v k
  dsimp only
  refine ⟨fun _ valid => ⟨csrRead_csrWrite_hstatus valid v k, csrRead_csrWrite_vsstatus s v k, ?_,
    csrRead_csrWrite_hideleg s v k⟩, ?_, ?_, fun none => ?_, fun ⟨code, raised, set⟩ => ?_, ⟨?_, csrOld_mip s, ?_⟩,
    fun valid => ?_⟩
  · rw [csrRead_csrWrite_hedeleg, getLsbD_hedelegMask]
  · rw [csrRead_csrWrite_medeleg, getLsbD_medelegMask]
  · rw [csrRead_csrWrite_mideleg, getLsbD_midelegMask, getLsbD_midelegOnes]
  · simp [csrRead_mtval, csrWrite_mtval, mtvalWritable_of_none none]
  · simp [csrRead_mtval, csrWrite_mtval, mtvalWritable_of_some raised set]
  · rw [getLsbD_csrRead_mip, getLsbD_csrRead_mip]
    exact mipBit_setMip s v k
  · rw [csrWrite, setMip_eq]
  · have valid' : (csrWrite s .menvcfg v).cfg.valid = true := by rwa [csrWrite_cfg]
    rw [pbmte_csrRead_menvcfg valid, pbmte_csrRead_menvcfg valid']
    refine ⟨csrRead_csrWrite_menvcfg valid v k, fun h32 => ?_, csrRead_csrWrite_senvcfg s v k,
      fun _ => ⟨csrRead_csrWrite_henvcfg valid v k, fun h32 => ?_, csrRead_henvcfg_csrWrite_menvcfg valid v, fun off => ?_⟩,
      setMenvcfg_frame s _⟩
    · obtain ⟨high, low⟩ := csrRead_csrWrite_menvcfgh valid h32 v k
      exact ⟨high, by rw [low]⟩
    · obtain ⟨high, low⟩ := csrRead_csrWrite_henvcfgh valid h32 v k
      exact ⟨high, by rw [low]⟩
    · rw [getLsbD_csrRead_henvcfg valid', off]
      rfl

end Sys2Proof.Machine
end

section
/-! PROOF. What an access raises and what it grants, read once off the walk: every exception is of the request's kind and at
its address, and every physical address keeps the page offset. With it, the instructions that make an access take what the
access raises. -/

namespace Sys2Proof.Machine

/-! ### What an operation answers -/

/-- The value an operation gives meets `P`, the exception it raises `Q`. -/
def Res.Answers {α : Type} (P : α → Prop) (Q : Exc → Prop) : Res α → Prop
  | .ok a _ => P a
  | .trap e _ => Q e

theorem Res.Answers.of_ok {α : Type} {P : α → Prop} {Q : Exc → Prop} {r : Res α} {a : α} {t : State}
    (h : r.Answers P Q) (ok : r = .ok a t) : P a := by
  subst ok; exact h

theorem Res.Answers.of_trap {α : Type} {P : α → Prop} {Q : Exc → Prop} {r : Res α} {e : Exc} {t : State}
    (h : r.Answers P Q) (trap : r = .trap e t) : Q e := by
  subst trap; exact h

theorem Res.Answers.weaken {α : Type} {P : α → Prop} {Q : Exc → Prop} {r : Res α} (h : r.Answers P Q) :
    r.Answers (fun _ => True) Q := by
  cases r
  exacts [trivial, h]

theorem answers_bind {α β : Type} {P : α → Prop} {P' : β → Prop} {Q : Exc → Prop} {r : Res α} {f : α → State → Res β}
    (h : r.Answers P Q) (k : ∀ a t, r = .ok a t → P a → (f a t).Answers P' Q) : (r.bind f).Answers P' Q := by
  cases r with
  | ok a t => exact k a t rfl h
  | trap e t => exact h

/-! ### The exceptions of a request -/

/-- The exceptions of an explicit access of a type (20_memory R340; 22_translation R448, R483). -/
def accessCauses (a : Acc) : List Nat := [misalignedFault a, accessFault a, pageFault a, guestPageFault a]

/-- What an exception reports of the request that raised it (60_exceptions R862; 61_hypervisor_traps R905, R907, R911). -/
structure Raised (r : Req) (e : Exc) : Prop where
  cause : e.cause ∈ accessCauses r.acc
  tval : e.tval = r.va
  gva : e.gva = r.virt
  off : e.off = (r.va - r.ea).toNat
  guest : e.gpa ≠ 0 ∨ e.implicit ≠ none → e.cause = guestPageFault r.acc

theorem raised_exc {r : Req} {cause gpa : Nat} {implicit : Option Bool} (h : cause ∈ accessCauses r.acc)
    (guest : gpa ≠ 0 ∨ implicit ≠ none → cause = guestPageFault r.acc) : Raised r (r.exc cause gpa implicit) :=
  ⟨h, rfl, rfl, rfl, guest⟩

theorem raised_plain {r : Req} {cause : Nat} (h : cause ∈ accessCauses r.acc) : Raised r (r.exc cause 0 none) :=
  raised_exc h fun k => absurd k (by simp)

theorem raised_accessFault (r : Req) : Raised r (r.exc (accessFault r.acc) 0 none) :=
  raised_plain (by simp [accessCauses])

/-- A walk raises a page fault or, at the G stage, a guest-page fault. -/
theorem raised_fault (r : Req) (w : Walk) : Raised r (w.fault r) := by
  unfold Walk.fault
  split
  · exact raised_exc (by simp [accessCauses]) fun _ => rfl
  · exact raised_plain (by simp [accessCauses])

theorem raised_misaligned {c : Config} {r : Req} {u : PmaUse} {n cause : Nat}
    (h : misalignedCause c u r.ea n = some cause) (acc : r.acc = useAcc u) : Raised r (r.exc cause 0 none) := by
  refine raised_plain ?_
  rw [acc]
  unfold misalignedCause at h
  split at h
  · cases h
  split at h
  · cases h; simp [accessCauses]
  · cases h; simp [accessCauses]
  split at h
  · cases h; simp [accessCauses]
  · cases h

/-! ### Translation -/

theorem checkPhys_answers (s : State) (r : Req) (u : PmaUse) (t : Acc) (p : Priv) (m : Mapping) (len n : Nat) :
    (checkPhys s r u t p m len n).Answers (fun _ => True) (Raised r) := by
  unfold checkPhys
  split
  · split
    exacts [trivial, raised_accessFault r]
  · exact raised_accessFault r

theorem physRead_answers (s : State) (a n : Nat) (Q : Exc → Prop) : (physRead s a n).Answers (fun _ => True) Q := by
  unfold physRead
  split
  · split <;> trivial
  · trivial

theorem pteRead_answers (r : Req) (w : Walk) (s : State) (m : Mapping) :
    (pteRead r w s m).Answers (fun _ => True) (Raised r) := by
  unfold pteRead
  dsimp only
  split
  · exact raised_accessFault r
  · exact answers_bind (checkPhys_answers ..) fun _ _ _ _ => answers_bind (physRead_answers ..) fun _ _ _ _ => trivial

theorem pteStorable_answers (r : Req) (w : Walk) (s : State) (m : Mapping) :
    (pteStorable r w s m).Answers (fun _ => True) (Raised r) := by
  unfold pteStorable
  dsimp only
  split
  · exact raised_accessFault r
  · exact checkPhys_answers ..

theorem pteFetch_answers {Q : Exc → Prop} (s : State) (w : Walk) (q i : Nat) (g : Bool) {mem : State → Nat → Res Word}
    (hm : ∀ t a, (mem t a).Answers (fun _ => True) Q) : (pteFetch s w q i g mem).Answers (fun _ => True) Q := by
  have read (t : State) : ((mem t q).bind fun v s1 => .ok v (tcAdd s1 w q i g v)).Answers (fun _ => True) Q :=
    answers_bind (hm t q) fun _ _ _ _ => trivial
  have chosen (k : Nat) (v : Word) : (if k = 0 then (mem (drawn s) q).bind fun v s1 => .ok v (tcAdd s1 w q i g v)
      else .ok v (tcUse (drawn s) w q i v)).Answers (fun _ => True) Q := by
    split
    exacts [read _, trivial]
  unfold pteFetch
  dsimp only
  generalize tcValues s w q i = cached
  cases cached with
  | nil => exact read s
  | cons v0 vs =>
    dsimp only
    split
    · split
      exacts [read s, chosen _ _]
    · exact chosen _ _

/-- What a walk gives or raises: the page offset stays, or the exception is the request's. -/
abbrev WalkAnswers (r : Req) (w : Walk) : Res Mapping → Prop :=
  Res.Answers (fun m => m.pa % 4096 = w.addr % 4096) (Raised r)

/-- Step 8 of R448 keeps the page offset at every level. -/
theorem leafAddr_pageOffset (w : Walk) (i : Nat) (pte : Word) : leafAddr w i pte % 4096 = w.addr % 4096 := by
  unfold leafAddr
  dsimp only
  rw [Nat.pow_add, Nat.mul_comm _ 4096, Nat.mul_add_mod]
  exact Nat.mod_mul_right_mod ..

theorem walkOn_answers {s : State} {r : Req} {w : Walk} {i : Nat} {g : Bool} {pte : Word}
    {down : State → Nat → Bool → Res Mapping} {mark : Res Mapping} (hd : ∀ t a g, WalkAnswers r w (down t a g))
    (hm : WalkAnswers r w mark) : WalkAnswers r w (walkOn s r w i g pte down mark) := by
  unfold walkOn
  split
  exacts [raised_fault r w, hd _ _ _, leafAddr_pageOffset w i pte, hm]

theorem pteUpdate_answers {before s : State} {r : Req} {w : Walk} {q i : Nat} {g : Bool} {pte : Word} {m : Mapping}
    {down : State → Nat → Bool → Res Mapping} (hd : ∀ t a g, WalkAnswers r w (down t a g)) :
    WalkAnswers r w (pteUpdate before s r w q i g pte m down) := by
  refine answers_bind (pteRead_answers ..) fun now s1 _ _ => ?_
  split
  · exact leafAddr_pageOffset w i pte
  · exact walkOn_answers hd (leafAddr_pageOffset w i now)

theorem walkFrom_answers {r : Req} {w : Walk} {loc : State → Nat → Bool → Res Mapping}
    (hl : ∀ t a b, (loc t a b).Answers (fun _ => True) (Raised r)) (i : Nat) (s : State) (a : Nat) (g : Bool) :
    WalkAnswers r w (walkFrom r w loc i s a g) := by
  have level (i : Nat) (down : State → Nat → Bool → Res Mapping) (hd : ∀ t a g, WalkAnswers r w (down t a g)) (s : State)
      (a : Nat) (g : Bool) : WalkAnswers r w (walkLevel r w loc i down s a g) := by
    refine answers_bind (pteFetch_answers _ _ _ _ _ fun t p => answers_bind (hl t p false) fun m t1 _ _ =>
      pteRead_answers ..) fun pte s1 _ _ => walkOn_answers hd ?_
    exact answers_bind (hl s1 _ true) fun m s2 _ _ =>
      answers_bind (pteStorable_answers ..) fun _ s3 _ _ => pteUpdate_answers hd
  induction i generalizing s a g with
  | zero => exact level 0 (fun t _ _ => .trap (w.fault r) t) (fun _ _ _ => raised_fault r w) s a g
  | succ i ih => exact level (i + 1) _ ih s a g

theorem gStage_answers (s : State) (r : Req) (gpa : Nat) (implicit : Option Bool) :
    (gStage s r gpa implicit).Answers (fun m => m.pa % 4096 = gpa % 4096) (Raised r) := by
  unfold gStage
  dsimp only
  generalize walk_eq : gWalk s gpa _ implicit = w
  have addr : w.addr = gpa := by rw [← walk_eq]; rfl
  rw [← addr]
  split
  · exact rfl
  split
  · exact raised_fault r w
  · exact walkFrom_answers (loc := physLoc) (fun _ _ _ => trivial) ..

/-- A translated address keeps the page offset (R448 step 8), and an exception of translation is the request's. -/
theorem translate_answers (s : State) (r : Req) :
    (translate s r).Answers (fun m => m.pa % 4096 = r.va.toNat % 4096) (Raised r) := by
  unfold translate
  split
  · exact rfl
  split
  · unfold translateV
    refine answers_bind (P := fun m => m.pa % 4096 = r.va.toNat % 4096) ?_ fun m s1 _ hm =>
      answers_bind (gStage_answers ..) fun g s2 _ hg => hg.trans hm
    unfold translateVS
    dsimp only
    split
    · exact rfl
    split
    · exact raised_fault r _
    · exact walkFrom_answers (fun _ _ _ => (gStage_answers ..).weaken) ..
  · unfold translateS
    dsimp only
    split
    · exact rfl
    split
    · exact raised_fault r _
    · exact walkFrom_answers (loc := physLoc) (fun _ _ _ => trivial) ..

/-! ### Whole accesses -/

/-- The effective mode of an access is not changed by earlier parts of it. -/
theorem dataReq_touched {s t : State} (h : Touched s t) (via : Via) (u : PmaUse) (ea va : Word) :
    dataReq t via u ea va = dataReq s via u ea va := by
  have mode : effMode t via = effMode s via := by
    cases via <;> simp [effMode, dataMode, mstatusBit, mstatusRead, hstatusBit, hstatusRead, mpp, h.cfg, h.m, h.h, h.priv,
      h.virt]
  simp only [dataReq, mode]

/-- Each part lies at a physical address with its page offset. -/
def PartsAt (l : List (Word × Nat)) (pas : List (Nat × Nat)) : Prop :=
  List.Forall₂ (fun p q => q.2 = p.2 ∧ q.1 % 4096 = p.1.toNat % 4096) l pas

theorem resolve_answers (s : State) (via : Via) (u : PmaUse) (ea : Word) (n : Nat) (l : List (Word × Nat)) :
    (resolve s via u ea n l).Answers (PartsAt l) fun e => ∃ p ∈ l, Raised (dataReq s via u ea p.1) e := by
  induction l generalizing s with
  | nil => exact .nil
  | cons p l ih =>
    obtain ⟨va, len⟩ := p
    have first {α : Type} {P : α → Prop} {r : Res α} (h : r.Answers P (Raised (dataReq s via u ea va))) :
        r.Answers P fun e => ∃ p ∈ (va, len) :: l, Raised (dataReq s via u ea p.1) e := by
      cases r
      exacts [h, ⟨_, List.mem_cons_self, h⟩]
    have rest {t : State} (ht : Touched s t) : (resolve t via u ea n l).Answers (PartsAt l) fun e =>
        ∃ p ∈ (va, len) :: l, Raised (dataReq s via u ea p.1) e := by
      have h := ih t
      cases hr : resolve t via u ea n l with
      | ok pas _ => exact h.of_ok hr
      | trap e _ =>
        obtain ⟨p, hp, raised⟩ := h.of_trap hr
        exact ⟨p, List.mem_cons_of_mem _ hp, dataReq_touched ht .. ▸ raised⟩
    refine answers_bind (first (translate_answers ..)) fun m s1 h1 hm =>
      answers_bind (first (checkPhys_answers ..)) fun _ s2 h2 _ =>
        answers_bind (rest ?_) fun pas s3 _ hpas => .cons ⟨rfl, hm⟩ hpas
    exact ((translate_touches ..).1 _ _ h1).trans ((checkPhys_touches ..).1 _ _ h2)

/-- The parts of an access: at its address and, where it crosses a 4 KiB boundary, at the start of the second page (R346). -/
theorem mem_parts {c : Config} {ea : Word} {n : Nat} {p : Word × Nat} (h : p ∈ parts c ea n) :
    p.1 = ea ∨ (ea.toNat % 4096 + n > 4096 ∧ p.1 = wrap c (ea + BitVec.ofNat 64 (4096 - ea.toNat % 4096))) := by
  unfold parts at h
  dsimp only at h
  split at h
  · rcases List.mem_cons.1 h with rfl | h
    · exact .inl rfl
    · exact .inr ⟨by omega, by rw [List.mem_singleton.1 h]⟩
  · exact .inl (by rw [List.mem_singleton.1 h])

theorem exists_parts_at_address (c : Config) (ea : Word) (n : Nat) : ∃ p ∈ parts c ea n, p.1 = ea := by
  unfold parts
  dsimp only
  split <;> exact ⟨_, List.mem_cons_self, rfl⟩

/-- What an access grants, and what it raises (R340). -/
theorem access_answers (s : State) (via : Via) (u : PmaUse) (ea : Word) (n : Nat) :
    (access s via u ea n).Answers (PartsAt (parts s.cfg ea n)) fun e =>
      ∃ p ∈ parts s.cfg ea n, Raised (dataReq s via u ea p.1) e := by
  unfold access
  split
  · exact resolve_answers ..
  · rename_i cause misaligned
    have raised : ∃ p ∈ parts s.cfg ea n,
        Raised (dataReq s via u ea p.1) ((dataReq s via u ea ea).exc cause 0 none) := by
      obtain ⟨p, hp, at_ea⟩ := exists_parts_at_address s.cfg ea n
      exact ⟨p, hp, at_ea ▸ raised_misaligned (r := dataReq s via u ea ea) misaligned rfl⟩
    dsimp only
    split
    · exact raised
    · exact answers_bind (resolve_answers ..) fun _ _ _ _ => raised

/-! ### Which access an instruction makes -/

/-- The access an instruction makes: through which mode, for which use, of how many bytes, at which effective address. -/
def memAccess (s : State) : Instr → Option (Via × PmaUse × Nat × Word)
  | .lb _ rs1 imm | .lbu _ rs1 imm => some (.plain, .load, 1, effAddr s rs1 imm)
  | .lh _ rs1 imm | .lhu _ rs1 imm => some (.plain, .load, 2, effAddr s rs1 imm)
  | .lw _ rs1 imm | .lwu _ rs1 imm => some (.plain, .load, 4, effAddr s rs1 imm)
  | .ld _ rs1 imm => some (.plain, .load, 8, effAddr s rs1 imm)
  | .sb rs1 _ imm => some (.plain, .store, 1, effAddr s rs1 imm)
  | .sh rs1 _ imm => some (.plain, .store, 2, effAddr s rs1 imm)
  | .sw rs1 _ imm => some (.plain, .store, 4, effAddr s rs1 imm)
  | .sd rs1 _ imm => some (.plain, .store, 8, effAddr s rs1 imm)
  | .lrW _ _ _ rs1 => some (.plain, .lr, 4, rX s rs1)
  | .lrD _ _ _ rs1 => some (.plain, .lr, 8, rX s rs1)
  | .scW _ _ _ rs1 _ => some (.plain, .sc, 4, rX s rs1)
  | .scD _ _ _ rs1 _ => some (.plain, .sc, 8, rX s rs1)
  | .amoswapW _ _ _ rs1 _ => some (.plain, .amo .swap, 4, rX s rs1)
  | .amoaddW _ _ _ rs1 _ => some (.plain, .amo .add, 4, rX s rs1)
  | .amoxorW _ _ _ rs1 _ => some (.plain, .amo .xor, 4, rX s rs1)
  | .amoandW _ _ _ rs1 _ => some (.plain, .amo .and, 4, rX s rs1)
  | .amoorW _ _ _ rs1 _ => some (.plain, .amo .or, 4, rX s rs1)
  | .amominW _ _ _ rs1 _ => some (.plain, .amo .min, 4, rX s rs1)
  | .amomaxW _ _ _ rs1 _ => some (.plain, .amo .max, 4, rX s rs1)
  | .amominuW _ _ _ rs1 _ => some (.plain, .amo .minu, 4, rX s rs1)
  | .amomaxuW _ _ _ rs1 _ => some (.plain, .amo .maxu, 4, rX s rs1)
  | .amoswapD _ _ _ rs1 _ => some (.plain, .amo .swap, 8, rX s rs1)
  | .amoaddD _ _ _ rs1 _ => some (.plain, .amo .add, 8, rX s rs1)
  | .amoxorD _ _ _ rs1 _ => some (.plain, .amo .xor, 8, rX s rs1)
  | .amoandD _ _ _ rs1 _ => some (.plain, .amo .and, 8, rX s rs1)
  | .amoorD _ _ _ rs1 _ => some (.plain, .amo .or, 8, rX s rs1)
  | .amominD _ _ _ rs1 _ => some (.plain, .amo .min, 8, rX s rs1)
  | .amomaxD _ _ _ rs1 _ => some (.plain, .amo .max, 8, rX s rs1)
  | .amominuD _ _ _ rs1 _ => some (.plain, .amo .minu, 8, rX s rs1)
  | .amomaxuD _ _ _ rs1 _ => some (.plain, .amo .maxu, 8, rX s rs1)
  | .hlvB _ rs1 | .hlvBu _ rs1 => some (.guest, .load, 1, rX s rs1)
  | .hlvH _ rs1 | .hlvHu _ rs1 => some (.guest, .load, 2, rX s rs1)
  | .hlvW _ rs1 | .hlvWu _ rs1 => some (.guest, .load, 4, rX s rs1)
  | .hlvD _ rs1 => some (.guest, .load, 8, rX s rs1)
  | .hlvxHu _ rs1 => some (.guest, .hlvx, 2, rX s rs1)
  | .hlvxWu _ rs1 => some (.guest, .hlvx, 4, rX s rs1)
  | .hsvB rs1 _ => some (.guest, .store, 1, rX s rs1)
  | .hsvH rs1 _ => some (.guest, .store, 2, rX s rs1)
  | .hsvW rs1 _ => some (.guest, .store, 4, rX s rs1)
  | .hsvD rs1 _ => some (.guest, .store, 8, rX s rs1)
  | _ => none

section
variable {s t : State} {via : Via} {u : PmaUse} {ea : Word} {n : Nat} {e : Exc}

theorem loadTo_refused (h : access s via u ea n = .trap e t) (rd : Reg) (signed : Bool) :
    loadTo s via u rd ea n signed = .trap e t := by
  simp [loadTo, memRead, h]

theorem storeFrom_refused (h : access s via .store ea n = .trap e t) (v : Word) : storeFrom s via ea n v = .trap e t := by
  simp [storeFrom, memWrite, h]

theorem lrTo_refused (h : access s .plain .lr ea n = .trap e t) (rd : Reg) : lrTo s rd ea n = .trap e t := by
  simp [lrTo, loadReserved, h]

theorem scTo_refused (h : access s .plain .sc ea n = .trap e t) (rd : Reg) (v : Word) : scTo s rd ea n v = .trap e t := by
  simp [scTo, storeConditional, h]

theorem amoTo_refused {op : AmoOp} (h : access s .plain (.amo op) ea n = .trap e t) (rd : Reg) (src : Word) :
    amoTo s rd op ea n src = .trap e t := by
  simp [amoTo, amo, h]

theorem run_trap {i : Instr} (available : i.available s.cfg = true) {body : State → Res Unit} (h : body s = .trap e t) :
    run i s body = .next (raise t (encode i) e) := by
  rw [run_available available, h]
  rfl

theorem permit_none {i : Instr} {d : Option Denied} (h : d = none) (body : Res Unit) : permit i s d body = body := by
  subst h
  rfl

/-- An instruction whose access is refused takes the exception, before any effect of its own. -/
theorem exec_refused {i : Instr} (makes : memAccess s i = some (via, u, n, ea)) (available : i.available s.cfg = true)
    (permitted : via = .guest → guestAccessDenied s = none) (h : access s via u ea n = .trap e t) :
    exec i s = .next (raise t (encode i) e) := by
  unfold exec
  cases i with
  | lb | lh | lw | lbu | lhu | ld | lwu => cases makes; exact run_trap available (loadTo_refused h ..)
  | sb | sh | sw | sd => cases makes; exact run_trap available (storeFrom_refused h _)
  | lrW | lrD => cases makes; exact run_trap available (lrTo_refused h _)
  | scW | scD => cases makes; exact run_trap available (scTo_refused h ..)
  | amoswapW | amoaddW | amoxorW | amoandW | amoorW | amominW | amomaxW | amominuW | amomaxuW | amoswapD | amoaddD
  | amoxorD | amoandD | amoorD | amominD | amomaxD | amominuD | amomaxuD =>
    cases makes; exact run_trap available (amoTo_refused h ..)
  | hlvB | hlvBu | hlvH | hlvHu | hlvxHu | hlvW | hlvWu | hlvxWu | hlvD =>
    cases makes; exact run_trap available ((permit_none (permitted rfl) _).trans (loadTo_refused h ..))
  | hsvB | hsvH | hsvW | hsvD =>
    cases makes; exact run_trap available ((permit_none (permitted rfl) _).trans (storeFrom_refused h _))
  | _ => cases makes

end

/-! ### The obligations on refused and misaligned accesses -/

/-- The codes of Table 3.7 by the type of the access; a fetch is none of the explicit ones. -/
theorem mem_accessCauses {a : Acc} (explicit : a ≠ .exec) {cause : Nat} (h : cause ∈ accessCauses a) :
    (a = .store → cause ∈ [6, 7, 15, 23]) ∧ (a ≠ .store → cause ∈ [4, 5, 13, 21]) ∧
      (cause = guestPageFault a → cause = 21 ∨ cause = 23) := by
  cases a with
  | exec => exact absurd rfl explicit
  | load | hlvx => exact ⟨nofun, fun _ => h, .inl⟩
  | store => exact ⟨fun _ => h, fun k => absurd rfl k, .inr⟩

/-- Settles O41: the access's exception is that of the request of one of its parts. -/
theorem refusedAccessesTrap : Obligations.RefusedAccessesTrap := by
  unfold Obligations.RefusedAccessesTrap
  intro s t rd rs1 rs2 imm aq rl i via u n ea e form available permitted refused
  have makes : memAccess s i = some (via, u, n, ea) ∧ useAcc u ≠ .exec := by
    casesm* _ ∨ _, _ ∧ _ <;> subst_vars <;> exact ⟨rfl, by decide⟩
  obtain ⟨makes, explicit⟩ := makes
  obtain ⟨p, part, raised⟩ := (access_answers s via u ea n).of_trap refused
  obtain ⟨store, load, guest⟩ := mem_accessCauses explicit raised.cause
  refine ⟨exec_refused makes available permitted refused, store, load, ?_, ?_, ?_, fun h => guest (raised.guest h)⟩
  · rw [raised.gva]
    cases via <;> rfl
  · rw [raised.tval]
    exact mem_parts part
  · rw [raised.off, raised.tval]
    rfl

/-- What decides a misaligned access: the exception of the whole access, where it ranks first (R344, R345). -/
theorem access_misaligned {s : State} {via : Via} {u : PmaUse} {ea : Word} {n cause : Nat}
    (first : s.cfg.misalignedFirst = true) (h : misalignedCause s.cfg u ea n = some cause) :
    access s via u ea n = .trap (instrExc cause ea (effMode s via).2) s := by
  simp only [access, h, first, if_true]
  simp [Req.exc, dataReq, instrExc]

/-- Settles O11: the access of each instruction raises the misalignment's exception before anything of it is done. -/
theorem misalignedAccessesTrap : Obligations.MisalignedAccessesTrap := by
  unfold Obligations.MisalignedAccessesTrap
  intro s rd rs1 rs2 imm aq rl i n cause store atomic guest ea form kind available first permitted misaligned
  have makes : ∃ u, memAccess s i = some (if guest then .guest else .plain, u, n, ea) ∧ useAtomic u = atomic ∧
      misalignedFault (useAcc u) = (if store then 6 else 4) ∧ accessFault (useAcc u) = if store then 7 else 5 := by
    clear kind
    casesm* _ ∨ _, _ ∧ _ <;> subst_vars <;> exact ⟨_, rfl, rfl, rfl, rfl⟩
  obtain ⟨u, makes, rfl, misalignedCode, accessCode⟩ := makes
  have code : misalignedCause s.cfg u ea n = some cause := by
    rw [misalignedCause, if_neg misaligned]
    obtain ⟨m, rfl⟩ | ⟨m | ⟨m, atomic⟩, rfl⟩ := kind
    · simp only [m, misalignedCode]
    · simp only [m, accessCode]
    · simp only [m, atomic, accessCode, if_true]
  have allowed (h : (if guest then Via.guest else .plain) = .guest) : guestAccessDenied s = none :=
    permitted (by cases guest with | false => cases h | true => rfl)
  have trap := exec_refused makes available allowed (access_misaligned first code)
  have gva : (effMode s (if guest then .guest else .plain)).2 = (guest || (dataMode s).2) := by cases guest <;> rfl
  rwa [gva] at trap

end Sys2Proof.Machine
end

section
/-! PROOF. Bytes and the numbers they stand for, in memory, in a word and in a fetched instruction. -/

namespace Sys2Proof.Machine

/-! ### Lists of bytes -/

/-- The number that bytes stand for, least significant first (20_memory R336). -/
def byteNumber (bs : List Byte) : Nat := Nat.ofDigits 256 (bs.map BitVec.toNat)

theorem byteNumber_cons (b : Byte) (bs : List Byte) : byteNumber (b :: bs) = b.toNat + 256 * byteNumber bs :=
  Nat.ofDigits_cons ..

theorem byteNumber_append (bs cs : List Byte) :
    byteNumber (bs ++ cs) = byteNumber bs + 256 ^ bs.length * byteNumber cs := by
  simp [byteNumber, Nat.ofDigits_append]

theorem byteNumber_lt (bs : List Byte) : byteNumber bs < 256 ^ bs.length := by
  induction bs with
  | nil => exact Nat.one_pos
  | cons b bs ih =>
    have hb := b.isLt
    rw [byteNumber_cons, List.length_cons, Nat.pow_succ]
    omega

@[simp] theorem length_bytesOf (n : Nat) (v : Word) : (bytesOf n v).length = n := by
  induction n generalizing v with
  | zero => rfl
  | succ n ih => simp [bytesOf, ih]

@[simp] theorem length_readBytes (mem : List Host.Cell) (a n : Nat) : (Memory.readBytes mem a n).length = n := by
  induction n generalizing a with
  | zero => rfl
  | succ n ih => simp [Memory.readBytes, ih]

@[simp] theorem length_orderBytes (big : Bool) (bs : List Byte) : (orderBytes big bs).length = bs.length := by
  cases big <;> simp [orderBytes]

@[simp] theorem orderBytes_orderBytes (big : Bool) (bs : List Byte) : orderBytes big (orderBytes big bs) = bs := by
  cases big <;> simp [orderBytes]

/-- The low n bytes of a word. -/
theorem byteNumber_bytesOf (n : Nat) (v : Word) : byteNumber (bytesOf n v) = v.toNat % 256 ^ n := by
  induction n generalizing v with
  | zero => simp [bytesOf, byteNumber, Nat.mod_one]
  | succ n ih =>
    rw [bytesOf, byteNumber_cons, ih, BitVec.toNat_setWidth, BitVec.toNat_ushiftRight, Nat.shiftRight_eq_div_pow]
    change v.toNat % 256 + 256 * (v.toNat / 256 % 256 ^ n) = _
    rw [Nat.pow_succ', Nat.mod_mul]

/-- A word holds eight bytes. -/
theorem toNat_ofBytes {bs : List Byte} (h : bs.length ≤ 8) : (ofBytes bs).toNat = byteNumber bs := by
  induction bs with
  | nil => rfl
  | cons b bs ih =>
    have len : bs.length ≤ 7 := Nat.le_of_succ_le_succ h
    have small : byteNumber bs < 2 ^ 56 := (byteNumber_lt bs).trans_le (Nat.pow_le_pow_right (n := 256) (by decide) len)
    have hb := b.isLt
    have high : (ofBytes bs <<< 8).toNat = byteNumber bs <<< 8 := by
      rw [BitVec.toNat_shiftLeft, ih (by omega), Nat.shiftLeft_eq]
      exact Nat.mod_eq_of_lt (by omega)
    have low : (b.setWidth 64).toNat = b.toNat := by
      rw [BitVec.toNat_setWidth]
      exact Nat.mod_eq_of_lt (by omega)
    rw [ofBytes, BitVec.toNat_or, high, low, Nat.or_comm, ← Nat.shiftLeft_add_eq_or_of_lt hb, Nat.shiftLeft_eq,
      byteNumber_cons]
    omega

/-! ### The bytes of memory -/

theorem littleValue_eq (mem : List Host.Cell) (a n : Nat) :
    littleValue mem a n = byteNumber (Memory.readBytes mem a n) := by
  induction n generalizing a with
  | zero => rfl
  | succ n ih => rw [littleValue, Memory.readBytes, byteNumber_cons, ih]

theorem bigValue_eq (mem : List Host.Cell) (a n : Nat) :
    bigValue mem a n = byteNumber (Memory.readBytes mem a n).reverse := by
  induction n generalizing a with
  | zero => rfl
  | succ n ih =>
    have last (b : Byte) : byteNumber [b] = b.toNat := by simp [byteNumber]
    rw [bigValue, Memory.readBytes, List.reverse_cons, byteNumber_append, last, ← ih, List.length_reverse, length_readBytes,
      Nat.add_comm, Nat.mul_comm]

theorem bytesValue_eq (big : Bool) (mem : List Host.Cell) (a n : Nat) :
    bytesValue big mem a n = byteNumber (orderBytes big (Memory.readBytes mem a n)) := by
  cases big
  exacts [littleValue_eq .., bigValue_eq ..]

theorem readBytes_congr {mem mem' : List Host.Cell} {a b : Nat} (n : Nat)
    (h : ∀ k < n, Memory.read mem (a + k) = Memory.read mem' (b + k)) :
    Memory.readBytes mem a n = Memory.readBytes mem' b n := by
  induction n generalizing a b with
  | zero => rfl
  | succ n ih =>
    rw [Memory.readBytes, Memory.readBytes, ih fun k hk => ?_]
    · exact congrArg (· :: _) (h 0 (by omega))
    · rw [Nat.add_assoc, Nat.add_assoc, Nat.add_comm 1]
      exact h (k + 1) (by omega)

/-- Memory that holds the bytes of a list, address by address, reads as the list. -/
theorem readBytes_of_reads {mem : List Host.Cell} {a : Nat} {bs : List Byte}
    (h : ∀ k < bs.length, Memory.read mem (a + k) = bs.getD k 0) : Memory.readBytes mem a bs.length = bs := by
  induction bs generalizing a with
  | nil => rfl
  | cons b bs ih =>
    rw [List.length_cons, Memory.readBytes, ih fun k hk => ?_]
    · exact congrArg (· :: bs) (h 0 (by simp))
    · rw [Nat.add_assoc, Nat.add_comm 1, h (k + 1) (by simpa using hk), List.getD_cons_succ]

/-- What was written is read back. -/
theorem readBytes_writeBytes {mem : List Host.Cell} (wf : Memory.wf mem = true) (a : Nat) (bs : List Byte) :
    Memory.readBytes (Memory.writeBytes mem a bs) a bs.length = bs :=
  readBytes_of_reads fun k hk => by
    rw [memory_read_writeBytes wf, if_pos (by omega), Nat.add_sub_cancel_left]

/-! ### Instruction words -/

/-- An instruction word is the little-endian number of its four bytes (20_memory R338). -/
theorem memory_inst_eq (mem : List Host.Cell) (a : Nat) : Memory.inst mem a = BitVec.ofNat 32 (littleValue mem a 4) := by
  have join {m : Nat} (x : BitVec m) (y : Byte) : (x ++ y).toNat = y.toNat + 256 * x.toNat := by
    rw [BitVec.toNat_append, ← Nat.shiftLeft_add_eq_or_of_lt y.isLt, Nat.shiftLeft_eq]
    omega
  have joined : (Memory.inst mem a).toNat = littleValue mem a 4 := by
    rw [Memory.inst, join, join, join]
    rfl
  rw [← joined, BitVec.ofNat_toNat, BitVec.setWidth_eq]

/-- Settles O45: in M-mode nothing is translated, the checks pass and no word is stale. -/
theorem fetchReadsMemoryAtPc : Obligations.FetchReadsMemoryAtPc := by
  unfold Obligations.FetchReadsMemoryAtPc
  intro s machine bare fresh synchronised allowed mainMemory protection
  have word : fetchWord s s.pc.toNat = (Memory.inst s.mem s.pc.toNat, s) := by simp [fetchWord, fresh]
  have translated (r : Req) (h : r.priv = .M) : translate s r = .ok (.plain r.va.toNat) s := by simp [translate, h]
  have checked (r : Req) (h : r.virt = false) :
      checkPhys s r .exec .exec .M (.plain s.pc.toNat) 4 4 = .ok () s := by
    unfold checkPhys
    rw [pmpPass_synchronised s r.virt _ _ _ _ (by rw [h]; exact synchronised)]
    simp [Mapping.plain, allowed, protection]
  unfold fetch
  dsimp only
  rw [translated _ machine, bind_ok, machine, checked _ bare, bind_ok]
  simp [Mapping.plain, mainMemory, word, memory_inst_eq]

end Sys2Proof.Machine
end

section
/-! PROOF. Loads and stores that complete: what a granted access reads or writes, and that the instruction does no more. -/

namespace Sys2Proof.Machine

/-! ### Completing an instruction -/

/-- Retirement as one update: pc goes on and minstret counts, unless it is inhibited (11_csr_machine R142, R146). -/
theorem retire_eq (s : State) :
    retire s = { s with
      pc := nextPc s
      m := { s.m with minstret := if inhibited s 2 then s.m.minstret else s.m.minstret + 1 } } := by
  have pc : setPc s (nextPc s) = { s with pc := nextPc s } := by rw [setPc, nextPc, wrap_wrap]
  have count : inhibited { s with pc := nextPc s } 2 = inhibited s 2 := rfl
  rw [retire, retireTo, pc, retireCount, count]
  split <;> rfl

theorem sameRest_retire {s u : State} (h : sameRest s u) : sameRest s (retire u) := by
  unfold sameRest at *
  rw [retire_eq, h]

theorem sameRest_wX {s u : State} (h : sameRest s u) (rd : Reg) (v : Word) : sameRest s (wX u rd v) := by
  unfold sameRest at *
  unfold wX
  split
  · exact h
  · rw [h]

/-- The instruction after one that left pc, the machine CSRs and the configuration. -/
theorem wentTo_retire {s u : State} (cfg : u.cfg = s.cfg) (pc : u.pc = s.pc) (m : u.m = s.m) :
    wentTo s (retire u) (nextPc s) := by
  have next : nextPc u = nextPc s := by rw [nextPc, cfg, pc, nextPc]
  have count : inhibited u 2 = inhibited s 2 := by rw [inhibited, cfg, m, inhibited]
  rw [retire_eq]
  refine ⟨next, ?_⟩
  dsimp only
  rw [count, m]

/-- rd is written and the instruction retires, after something that left the registers, pc and the machine CSRs. -/
theorem wroteReg_writeBack {s u : State} (cfg : u.cfg = s.cfg) (regs : u.regs = s.regs) (rd : Reg) (v : Word) :
    wroteReg s (retire (wX u rd v)) rd (wrap s.cfg v) := fun r => by
  rw [retire, rX_retireTo, rX_wX, cfg, rX_congr regs cfg]

theorem sameRegs_retire {s u : State} (cfg : u.cfg = s.cfg) (regs : u.regs = s.regs) : sameRegs s (retire u) := fun r => by
  rw [retire, rX_retireTo, rX_congr regs cfg]

/-! ### Granted accesses -/

theorem sum_parts (c : Config) (ea : Word) (n : Nat) : ((parts c ea n).map Prod.snd).sum = n := by
  unfold parts
  dsimp only
  split
  · simp only [List.map_cons, List.map_nil, List.sum_cons, List.sum_nil]
    omega
  · simp

/-- The granted bytes are those of the access. -/
theorem sum_granted {s t : State} {via : Via} {u : PmaUse} {ea : Word} {n : Nat} {pas : List (Nat × Nat)}
    (granted : access s via u ea n = .ok pas t) : (pas.map Prod.snd).sum = n := by
  have same {l : List (Word × Nat)} {pas : List (Nat × Nat)} (h : PartsAt l pas) : pas.map Prod.snd = l.map Prod.snd := by
    induction h with
    | nil => rfl
    | cons at_p _ ih => rw [List.map_cons, List.map_cons, at_p.1, ih]
  rw [same ((access_answers s via u ea n).of_ok granted), sum_parts]

/-- An access in two parts is split at a page end: the first part ends a page, the second starts one (R346). -/
theorem two_parts {s t : State} {via : Via} {u : PmaUse} {ea : Word} {n a m b k : Nat}
    (granted : access s via u ea n = .ok [(a, m), (b, k)] t) : (a + m) % 4096 = 0 ∧ b % 4096 = 0 := by
  have at_parts : PartsAt (parts s.cfg ea n) [(a, m), (b, k)] := (access_answers s via u ea n).of_ok granted
  unfold parts at at_parts
  dsimp only at at_parts
  split at at_parts
  · obtain _ | ⟨⟨len, first⟩, _ | ⟨⟨-, second⟩, -⟩⟩ := at_parts
    refine ⟨by dsimp only at len first; omega, ?_⟩
    rw [second, toNat_wrap, BitVec.toNat_add, BitVec.toNat_ofNat]
    unfold Config.xlen
    split <;> omega
  · obtain _ | ⟨-, _ | _⟩ := at_parts

/-! ### Reads -/

/-- A read at a physical address gives bytes of its width and draws free values at most. -/
theorem physRead_ok (s : State) (a n : Nat) :
    ∃ bs d, physRead s a n = .ok bs { s with draws := d } ∧ bs.length = n := by
  unfold physRead
  split
  · split
    · exact ⟨_, s.draws, rfl, length_bytesOf ..⟩
    · exact ⟨_, s.draws + 1, rfl, by simp [unknownRead]⟩
  · exact ⟨_, s.draws, rfl, length_readBytes ..⟩

theorem readParts_ok (s : State) (pas : List (Nat × Nat)) :
    ∃ bs d, readParts s pas = .ok bs { s with draws := d } ∧ bs.length = (pas.map Prod.snd).sum := by
  induction pas generalizing s with
  | nil => exact ⟨[], s.draws, rfl, rfl⟩
  | cons p pas ih =>
    obtain ⟨bs, d, first, len⟩ := physRead_ok s p.1 p.2
    obtain ⟨cs, d', rest, len'⟩ := ih { s with draws := d }
    refine ⟨bs ++ cs, d', ?_, by simp [len, len']⟩
    rw [readParts, first, bind_ok, rest]
    rfl

/-- A read of parts in main memory. -/
theorem readParts_main {s : State} {pas : List (Nat × Nat)} (main : ∀ p ∈ pas, isIo s.cfg p.1 p.2 = false) :
    readParts s pas = .ok (pas.flatMap fun p => Memory.readBytes s.mem p.1 p.2) s := by
  induction pas with
  | nil => rfl
  | cons p pas ih =>
    obtain ⟨first, rest⟩ := List.forall_mem_cons.1 main
    rw [readParts, physRead_main first, bind_ok, ih rest]
    rfl

/-- An available load whose access is granted: rd receives the bytes read, and nothing else happens. -/
theorem load_granted {i : Instr} {s s1 : State} {rd : Reg} {ea : Word} {n d : Nat} {signed : Bool} {pas : List (Nat × Nat)}
    {bs : List Byte} (body : exec i s = run i s fun s => loadTo s .plain .load rd ea n signed)
    (available : i.available s.cfg = true) (granted : access s .plain .load ea n = .ok pas s1)
    (read : readParts s1 pas = .ok bs { s1 with draws := d }) :
    let v := ofBytes (orderBytes (viaBig s .plain) bs)
    ∃ t, exec i s = .next t ∧ wroteReg s1 t rd (wrap s.cfg (if signed then sextBytes n v else v)) ∧
      wentTo s1 t (nextPc s1) ∧ sameBytes s1 t ∧ sameRest s1 t := by
  intro v
  have cfg : s1.cfg = s.cfg := ((access_touches ..).1 _ _ granted).cfg
  have loaded : loadTo s .plain .load rd ea n signed =
      .ok () (retire (wX { s1 with draws := d } rd (if signed then sextBytes n v else v))) := by
    rw [loadTo, memRead, granted, bind_ok, read]
    rfl
  refine ⟨_, by rw [body, run_available available, loaded]; rfl, ?_, ?_, fun a => ?_, ?_⟩
  · rw [← cfg]
    exact wroteReg_writeBack (u := { s1 with draws := d }) rfl rfl rd _
  · exact wentTo_retire (wX_cfg ..) (wX_pc ..) (wX_m ..)
  · rw [retire, retireTo_mem, wX_mem]
  · exact sameRest_retire (sameRest_wX (u := { s1 with draws := d }) rfl rd _)

/-! ### Loaded values -/

/-- A word that is an integer modulo 2^64 is it modulo 2^XLEN when narrowed. -/
theorem wrap_eq_ofXlen (c : Config) {w : Word} {z : Int} (same : (w.toNat : Int) % 2 ^ 64 = z % 2 ^ 64) :
    wrap c w = ofXlen c z := by
  apply BitVec.eq_of_toNat_eq
  rw [toNat_wrap, ofXlen, BitVec.toNat_ofNat]
  unfold Config.xlen
  split <;> omega

theorem toInt_sextBytes {n : Nat} (width : n = 1 ∨ n = 2 ∨ n = 4 ∨ n = 8) (v : Word) :
    (sextBytes n v).toInt = Int.bmod v.toNat (2 ^ (8 * n)) := by
  have narrow (k : Nat) (hk : k ≤ 64) : ((v.setWidth k).signExtend 64).toInt = Int.bmod v.toNat (2 ^ k) := by
    rw [BitVec.toInt_signExtend_of_le hk, BitVec.toInt_setWidth]
  obtain rfl | rfl | rfl | rfl := width
  exacts [narrow 8 (by decide), narrow 16 (by decide), narrow 32 (by decide), BitVec.toInt_eq_toNat_bmod v]

/-- A loaded number of n bytes in a register (R590). -/
theorem wrap_loaded {n : Nat} (width : n = 1 ∨ n = 2 ∨ n = 4 ∨ n = 8) (c : Config) (signed : Bool) (v : Word) :
    wrap c (if signed then sextBytes n v else v) = extended c signed n v.toNat := by
  cases signed
  · exact wrap_eq_ofXlen c rfl
  · refine (wrap_eq_ofXlen c ?_).trans (congrArg (ofXlen c) (toInt_sextBytes width v))
    rw [if_pos rfl, BitVec.toInt_eq_toNat_bmod]
    exact (Int.bmod_emod ..).symm

/-! ### Stores -/

/-- An available store whose access is granted: the bytes are written and the instruction retires. -/
theorem store_granted {i : Instr} {s s1 u : State} {ea v : Word} {n : Nat} {pas : List (Nat × Nat)}
    (body : exec i s = run i s fun s => storeFrom s .plain ea n v) (available : i.available s.cfg = true)
    (granted : access s .plain .store ea n = .ok pas s1)
    (written : writeParts s1 pas (orderBytes (viaBig s .plain) (bytesOf n v)) = .ok () u) :
    exec i s = .next (retire u) := by
  have stored : storeFrom s .plain ea n v = .ok () (retire u) := by
    rw [storeFrom, memWrite, granted, bind_ok, written, bind_ok]
  rw [body, run_available available, stored]
  rfl

theorem writeParts_one (s : State) (a : Nat) (bs : List Byte) :
    writeParts s [(a, bs.length)] bs = .ok () (physStore s a bs) := by
  simp [writeParts, physWrite]

theorem writeParts_two (s : State) (a b : Nat) {m k : Nat} {bs : List Byte} (len : bs.length = m + k) :
    writeParts s [(a, m), (b, k)] bs = .ok () (physStore (physStore s a (bs.take m)) b (bs.drop m)) := by
  have rest : (bs.drop m).take k = bs.drop m := List.take_of_length_le (by simp [len])
  simp [writeParts, physWrite, rest]

theorem physStore_main {s : State} {a : Nat} {bs : List Byte} (main : isIo s.cfg a bs.length = false) :
    physStore s a bs = storeBytes s a bs := by
  simp [physStore, main]

/-- A device that the spec does not describe takes the bytes, and no state changes (R359). -/
theorem physStore_undescribed {s : State} {a : Nat} {bs : List Byte} (io : isIo s.cfg a bs.length = true)
    (none : deviceAt s.cfg a bs.length = none) : physStore s a bs = s := by
  simp [physStore, io, none]

/-- The stale words of a write are the words it touches, as they were (20_memory R385). -/
theorem mem_staleWords {old new : List Host.Cell} {a n : Nat} {e : Nat × Inst} (h : e ∈ staleWords old new a n) :
    e.1 % 4 = 0 ∧ e.1 < a + n ∧ a < e.1 + 4 ∧ e.2 = Memory.inst old e.1 := by
  simp only [staleWords, touchedWords, List.mem_map, List.mem_filter, List.mem_range] at h
  obtain ⟨w, ⟨⟨k, hk, rfl⟩, -⟩, rfl⟩ := h
  exact ⟨by dsimp only; omega, by dsimp only; omega, by dsimp only; omega, rfl⟩

theorem staleOnly_storeBytes (s : State) (a : Nat) (bs : List Byte) : staleOnly s (storeBytes s a bs) a bs.length :=
  ⟨fun _ h => List.mem_append_right _ h, fun _ h => (List.mem_append.1 h).symm.imp_right mem_staleWords⟩

/-- Main memory after a store: the number at its address, every other byte as it was. -/
theorem stored_storeBytes {s : State} (wf : Memory.wf s.mem = true) (big : Bool) (a n : Nat) (v : Word) :
    stored s (storeBytes s a (orderBytes big (bytesOf n v))) big a n v.toNat := by
  have len : (orderBytes big (bytesOf n v)).length = n := by simp
  refine ⟨?_, fun b apart => ?_⟩
  · have read := readBytes_writeBytes wf a (orderBytes big (bytesOf n v))
    rw [len] at read
    rw [bytesValue_eq, storeBytes_mem, read, orderBytes_orderBytes, byteNumber_bytesOf]
  · rw [storeBytes_mem, memory_read_writeBytes wf, if_neg (by omega)]

/-- A word that a write does not touch is as it was. -/
theorem inst_writeBytes_apart {mem : List Host.Cell} (wf : Memory.wf mem = true) {a w : Nat} {bs : List Byte}
    (apart : w + 4 ≤ a ∨ a + bs.length ≤ w) : Memory.inst (Memory.writeBytes mem a bs) w = Memory.inst mem w := by
  have byte (k : Nat) (hk : k < 4) : Memory.read (Memory.writeBytes mem a bs) (w + k) = Memory.read mem (w + k) := by
    rw [memory_read_writeBytes wf, if_neg (by omega)]
  rw [memory_inst_eq, memory_inst_eq, littleValue_eq, littleValue_eq, readBytes_congr 4 byte]

section
variable {s : State} {a b m k : Nat} {bs : List Byte} (wf : Memory.wf s.mem = true) (len : bs.length = m + k)
include wf len

/-- Memory after a store in two parts. -/
theorem read_storeBytes_two (x : Nat) :
    Memory.read (storeBytes (storeBytes s a (bs.take m)) b (bs.drop m)).mem x =
      if b ≤ x ∧ x < b + k then bs.getD (m + (x - b)) 0
      else if a ≤ x ∧ x < a + m then bs.getD (x - a) 0 else Memory.read s.mem x := by
  have lower : (bs.take m).length = m := by simp [len]
  have upper : (bs.drop m).length = k := by simp [len]
  rw [storeBytes_mem, memory_read_writeBytes (storeBytes_wf wf ..), storeBytes_mem, memory_read_writeBytes wf, lower, upper]
  refine if_congr Iff.rfl ?_ (ite_congr rfl (fun inside => ?_) fun _ => rfl)
  · rw [List.getD_eq_getElem?_getD, List.getD_eq_getElem?_getD, List.getElem?_drop]
  · rw [List.getD_eq_getElem?_getD, List.getD_eq_getElem?_getD, List.getElem?_take_of_lt (by omega)]

/-- The old words that a store in two parts leaves to fetches: no word lies in both parts, as one ends a page and the other
starts one. -/
theorem istale_storeBytes_two (ends : (a + m) % 4096 = 0) (starts : b % 4096 = 0) (small : m + k ≤ 8) {e : Nat × Inst}
    (h : e ∈ (storeBytes (storeBytes s a (bs.take m)) b (bs.drop m)).istale) :
    e ∈ s.istale ∨ (e.1 % 4 = 0 ∧ ((e.1 < a + m ∧ a < e.1 + 4) ∨ (e.1 < b + k ∧ b < e.1 + 4)) ∧
      e.2 = Memory.inst s.mem e.1) := by
  have lower : (bs.take m).length = m := by simp [len]
  have upper : (bs.drop m).length = k := by simp [len]
  obtain second | first := List.mem_append.1 h
  · obtain ⟨aligned, below, above, word⟩ := mem_staleWords second
    rw [upper] at below
    rw [storeBytes_mem, inst_writeBytes_apart wf (by omega)] at word
    exact .inr ⟨aligned, .inr ⟨below, above⟩, word⟩
  · refine ((staleOnly_storeBytes s a (bs.take m)).2 e first).imp_right fun ⟨aligned, below, above, word⟩ => ?_
    rw [lower] at below
    exact ⟨aligned, .inl ⟨below, above⟩, word⟩

end

/-- Nothing but memory and the stale words is changed by a store to main memory that retires. -/
theorem sameRest_retire_stored {s u : State} (h : sameRest s { u with istale := s.istale }) :
    sameRest s { retire u with istale := s.istale } := by
  have swap : { retire u with istale := s.istale } = retire { u with istale := s.istale } := by
    rw [retire_eq, retire_eq]
    rfl
  rw [swap]
  exact sameRest_retire h

section
variable {i : Instr} {s s1 : State} {ea v : Word} {n a : Nat}
  (body : exec i s = run i s fun s => storeFrom s .plain ea n v) (available : i.available s.cfg = true)
include body available

/-- A store at an I/O address that is no register of the spec changes nothing. -/
theorem store_undescribed (granted : access s .plain .store ea n = .ok [(a, n)] s1) (io : isIo s1.cfg a n = true)
    (undescribed : deviceAt s1.cfg a n = none) :
    ∃ t, exec i s = .next t ∧ sameRegs s1 t ∧ wentTo s1 t (nextPc s1) ∧ sameBytes s1 t ∧ sameRest s1 t := by
  have len : (orderBytes (viaBig s .plain) (bytesOf n v)).length = n := by simp
  have written := writeParts_one s1 a (orderBytes (viaBig s .plain) (bytesOf n v))
  rw [physStore_undescribed (by rwa [len]) (by rwa [len]), len] at written
  exact ⟨_, store_granted body available granted written, sameRegs_retire rfl rfl, wentTo_retire rfl rfl rfl,
    fun x => by rw [retire_eq], sameRest_retire rfl⟩

/-- A store in one part, in main memory. -/
theorem store_one_part (wf : Memory.wf s.mem = true) (granted : access s .plain .store ea n = .ok [(a, n)] s1)
    (main : isIo s1.cfg a n = false) :
    ∃ t, exec i s = .next t ∧ stored s1 t (viaBig s .plain) a n v.toNat ∧ sameRegs s1 t ∧ wentTo s1 t (nextPc s1) ∧
      sameRestStore s1 t a n := by
  have wf1 : Memory.wf s1.mem = true := ((access_touches ..).1 _ _ granted).wf wf
  have len : (orderBytes (viaBig s .plain) (bytesOf n v)).length = n := by simp
  have written := writeParts_one s1 a (orderBytes (viaBig s .plain) (bytesOf n v))
  have stale := staleOnly_storeBytes s1 a (orderBytes (viaBig s .plain) (bytesOf n v))
  rw [physStore_main (by rwa [len]), len] at written
  rw [len] at stale
  refine ⟨_, store_granted body available granted written, ?_, sameRegs_retire rfl rfl, wentTo_retire rfl rfl rfl,
    sameRest_retire_stored rfl, ?_⟩
  · rw [retire_eq]
    exact stored_storeBytes wf1 ..
  · rw [retire_eq]
    exact stale

/-- A store in two parts, both in main memory. -/
theorem store_two_parts {m b k : Nat} (wf : Memory.wf s.mem = true) (width : n ≤ 8)
    (granted : access s .plain .store ea n = .ok [(a, m), (b, k)] s1) (mainA : isIo s1.cfg a m = false)
    (mainB : isIo s1.cfg b k = false) :
    let bs := orderBytes (viaBig s .plain) (bytesOf n v)
    ∃ t, exec i s = .next t ∧
      (∀ x, Memory.read t.mem x = if b ≤ x ∧ x < b + k then bs.getD (m + (x - b)) 0
        else if a ≤ x ∧ x < a + m then bs.getD (x - a) 0 else Memory.read s1.mem x) ∧
      (∀ e ∈ s1.istale, e ∈ t.istale) ∧
      (∀ e ∈ t.istale, e ∈ s1.istale ∨ (e.1 % 4 = 0 ∧
        ((e.1 < a + m ∧ a < e.1 + 4) ∨ (e.1 < b + k ∧ b < e.1 + 4)) ∧ e.2 = Memory.inst s1.mem e.1)) ∧
      sameRegs s1 t ∧ wentTo s1 t (nextPc s1) ∧ sameRest s1 { t with istale := s1.istale } := by
  intro bs
  have wf1 : Memory.wf s1.mem = true := ((access_touches ..).1 _ _ granted).wf wf
  have sum : m + k = n := by simpa using sum_granted granted
  have len : bs.length = m + k := by simp [bs, sum]
  obtain ⟨ends, starts⟩ := two_parts granted
  have written := writeParts_two s1 a b len
  have lower : (bs.take m).length = m := by simp [len]
  have upper : (bs.drop m).length = k := by simp [len]
  rw [physStore_main (s := s1) (by rwa [lower]), physStore_main (by rwa [upper])] at written
  refine ⟨_, store_granted body available granted written, fun x => ?_, fun e h => ?_, fun e h => ?_,
    sameRegs_retire rfl rfl, wentTo_retire rfl rfl rfl, sameRest_retire_stored rfl⟩
  · rw [retire_eq]
    exact read_storeBytes_two wf1 len x
  · rw [retire_eq]
    exact List.mem_append_right _ (List.mem_append_right _ h)
  · rw [retire_eq] at h
    exact istale_storeBytes_two wf1 len ends starts (by omega) h

end

/-! ### The obligation on granted accesses -/

/-- Settles O9: the access grants the parts, and the instruction reads or writes them and retires. -/
theorem accessesInAnyMode : Obligations.AccessesInAnyMode := by
  unfold Obligations.AccessesInAnyMode
  refine ⟨fun s s1 rd rs1 imm i n signed pas form available granted main => ?_,
    fun s s1 rd rs1 imm i n signed pas form available granted _ => ?_,
    fun s s1 rs1 rs2 imm i n a form available granted => ?_,
    fun s s1 rs1 rs2 imm i n a form available wf => ?_⟩
  · have body : exec i s = run i s fun s => loadTo s .plain .load rd (effAddr s rs1 imm) n signed := by
      casesm* _ ∨ _, _ ∧ _ <;> subst_vars <;> rfl
    have value (v : Word) : (if signed then sextBytes n else id) v = if signed then sextBytes n v else v := by
      cases signed <;> rfl
    rw [value]
    exact load_granted body available granted (readParts_main main)
  · have body : exec i s = run i s fun s => loadTo s .plain .load rd (effAddr s rs1 imm) n signed := by
      casesm* _ ∨ _, _ ∧ _ <;> subst_vars <;> rfl
    have width : n = 1 ∨ n = 2 ∨ n = 4 ∨ n = 8 := by omega
    obtain ⟨bs, d, read, len⟩ := readParts_ok s1 pas
    have ordered : (orderBytes (viaBig s .plain) bs).length = n := by rw [length_orderBytes, len, sum_granted granted]
    have bound : (ofBytes (orderBytes (viaBig s .plain) bs)).toNat < 256 ^ n := by
      rw [toNat_ofBytes (by omega), ← ordered]
      exact byteNumber_lt _
    obtain ⟨t, ran, wrote, rest⟩ := load_granted body available granted read
    rw [wrap_loaded width] at wrote
    exact ⟨t, _, ran, bound, wrote, rest⟩
  · have body : exec i s = run i s fun s => storeFrom s .plain (effAddr s rs1 imm) n (rX s rs2) := by
      casesm* _ ∨ _, _ ∧ _ <;> subst_vars <;> rfl
    exact store_undescribed body available granted
  · have body : exec i s = run i s fun s => storeFrom s .plain (effAddr s rs1 imm) n (rX s rs2) := by
      casesm* _ ∨ _, _ ∧ _ <;> subst_vars <;> rfl
    have width : n ≤ 8 := by omega
    exact ⟨store_one_part body available wf, fun m b k => store_two_parts body available wf width⟩

end Sys2Proof.Machine
end

section
/-! PROOF. Which bytes a PMP entry matches, and what the entries together decide of an access (21_pmp R408, R410, R413). -/

namespace Sys2Proof.Machine

/-! ### The width and the low bits of a word -/

theorem xlen_le_64 (c : Config) : c.xlen ≤ 64 := by
  unfold Config.xlen
  split <;> decide

theorem toNat_and_fieldMask (w : Word) (n : Nat) : (w &&& fieldMask 0 n).toNat = w.toNat % 2 ^ n := by
  refine Nat.eq_of_testBit_eq fun k => ?_
  rw [Nat.testBit_mod_two_pow]
  change (w &&& fieldMask 0 n).getLsbD k = (_ && w.getLsbD k)
  rw [BitVec.getLsbD_and, getLsbD_fieldMask]
  grind

theorem toNat_and_not_fieldMask (w : Word) (n : Nat) : (w &&& ~~~fieldMask 0 n).toNat = w.toNat / 2 ^ n * 2 ^ n := by
  refine Nat.eq_of_testBit_eq fun k => ?_
  rw [Nat.mul_comm, Nat.testBit_two_pow_mul, Nat.testBit_div_two_pow]
  change (w &&& ~~~fieldMask 0 n).getLsbD k = (_ && w.getLsbD _)
  rw [BitVec.getLsbD_and, BitVec.getLsbD_not, getLsbD_fieldMask]
  grind

theorem toNat_or_fieldMask (w : Word) {n : Nat} (h : n ≤ 64) :
    (w ||| fieldMask 0 n).toNat = w.toNat / 2 ^ n * 2 ^ n + (2 ^ n - 1) := by
  refine Nat.eq_of_testBit_eq fun k => ?_
  rw [Nat.mul_comm, Nat.testBit_two_pow_mul_add _ (Nat.sub_lt (Nat.two_pow_pos n) Nat.one_pos), Nat.testBit_div_two_pow,
    Nat.testBit_two_pow_sub_one]
  change (w ||| fieldMask 0 n).getLsbD k = if _ then _ else w.getLsbD _
  rw [BitVec.getLsbD_or, getLsbD_fieldMask]
  grind

/-- `t` low ones below a zero, or below the end, are the trailing ones. -/
theorem trailingOnes_eq {fuel t : Nat} {w : Word} (le : t ≤ fuel) (ones : ∀ k < t, w.getLsbD k = true)
    (zero : t < fuel → w.getLsbD t = false) : trailingOnes fuel w = t := by
  induction fuel generalizing w t with
  | zero => exact (Nat.le_zero.1 le).symm
  | succ fuel ih =>
    cases t with
    | zero => rw [trailingOnes, if_neg (Bool.eq_false_iff.1 (zero (Nat.succ_pos fuel)))]
    | succ t =>
      have rest : trailingOnes fuel (w >>> 1) = t :=
        ih (Nat.le_of_succ_le_succ le)
          (fun k hk => by rw [BitVec.getLsbD_ushiftRight, Nat.add_comm]; exact ones _ (Nat.succ_lt_succ hk))
          (fun h => by rw [BitVec.getLsbD_ushiftRight, Nat.add_comm]; exact zero (Nat.succ_lt_succ h))
      rw [trailingOnes, if_pos (ones 0 (Nat.succ_pos t)), rest, Nat.add_comm]

/-- A number that ends in `t` ones has its `t` low bits set. -/
theorem testBit_of_mod_eq_ones {a t k : Nat} (h : a % 2 ^ t = 2 ^ t - 1) (hk : k < t) : a.testBit k = true := by
  have low : (a % 2 ^ t).testBit k = a.testBit k := by simp [Nat.testBit_mod_two_pow, hk]
  rw [← low, h, Nat.testBit_two_pow_sub_one, decide_eq_true hk]

/-! ### Ranges of bytes -/

theorem rangeTouches_one (r : Nat × Nat) (y : Nat) : rangeTouches r y 1 = true ↔ r.1 ≤ y ∧ y < r.2 := by
  simp only [rangeTouches, Bool.and_eq_true, decide_eq_true_eq]
  omega

/-- The range and the access share a byte: the greater of the two first bytes. -/
theorem rangeTouches_iff (r : Nat × Nat) (a : Nat) {n : Nat} (h : 0 < n) :
    rangeTouches r a n = true ↔ ∃ y, a ≤ y ∧ y < a + n ∧ r.1 ≤ y ∧ y < r.2 := by
  simp only [rangeTouches, Bool.and_eq_true, decide_eq_true_eq]
  constructor
  · rintro ⟨⟨below, above⟩, nonempty⟩
    exact ⟨max a r.1, by omega, by omega, by omega, by omega⟩
  · rintro ⟨y, _, _, _, _⟩
    omega

/-- The first and the last byte of the access decide. -/
theorem rangeCovers_iff (r : Nat × Nat) (a : Nat) {n : Nat} (h : 0 < n) :
    rangeCovers r a n = true ↔ ∀ y, a ≤ y → y < a + n → r.1 ≤ y ∧ y < r.2 := by
  simp only [rangeCovers, Bool.and_eq_true, decide_eq_true_eq]
  constructor
  · intro covered y _ _
    omega
  · intro covered
    have first := covered a (by omega) (by omega)
    have last := covered (a + n - 1) (by omega) (by omega)
    omega

/-! ### The address a register holds -/

/-- The implemented bits of an address register as a number (R405). -/
def pmpAddr (c : Config) (p : Pmp) (i : Fin 64) : Nat := (p.addr.get i).toNat % 2 ^ min (c.palen - 2) c.xlen

theorem toNat_and_pmpAddrMask (c : Config) (p : Pmp) (i : Fin 64) :
    (p.addr.get i &&& pmpAddrMask c).toNat = pmpAddr c p i :=
  toNat_and_fieldMask ..

/-- Bit 4 tells NA4 and NAPOT from OFF and TOR (R407). -/
theorem getLsbD_four_eq (cfg : BitVec 8) : cfg.getLsbD 4 = decide (2 ≤ pmpA cfg) := by
  rw [BitVec.getLsbD, Nat.testBit_eq_decide_div_mod_eq, pmpA, BitVec.toNat_ushiftRight, Nat.shiftRight_eq_div_pow,
    decide_eq_decide]
  omega

/-- R410: below the granularity an OFF or TOR entry reads zeros. -/
theorem toNat_pmpAddrView_of_tor {c : Config} {p : Pmp} {i : Fin 64} (h : pmpA (p.cfg.get i) < 2) :
    (pmpAddrView c p i).toNat = pmpAddr c p i / 2 ^ c.pmpG * 2 ^ c.pmpG := by
  have tor : ¬(p.cfg.get i).getLsbD 4 = true := by
    rw [getLsbD_four_eq, decide_eq_true_eq]
    exact Nat.not_le.2 h
  simp only [pmpAddrView, if_neg tor, toNat_and_not_fieldMask, toNat_and_pmpAddrMask]

/-- What a NAPOT entry's register reads: ones below the granularity (R410). -/
def pmpNapotAddr (c : Config) (p : Pmp) (i : Fin 64) : Nat :=
  if c.pmpG < 2 then pmpAddr c p i
  else pmpAddr c p i / 2 ^ (c.pmpG - 1) * 2 ^ (c.pmpG - 1) + (2 ^ (c.pmpG - 1) - 1)

theorem toNat_pmpAddrView_of_napot {c : Config} {p : Pmp} {i : Fin 64} (h : 2 ≤ pmpA (p.cfg.get i)) (g : c.pmpG < c.xlen) :
    (pmpAddrView c p i).toNat = pmpNapotAddr c p i := by
  have napot : (p.cfg.get i).getLsbD 4 = true := (getLsbD_four_eq _).trans (decide_eq_true h)
  have within : min (c.pmpG - 1) c.xlen = c.pmpG - 1 := by omega
  have small : c.pmpG - 1 ≤ 64 := by
    have width := xlen_le_64 c
    omega
  simp only [pmpAddrView, if_pos napot, within, pmpNapotAddr]
  by_cases coarse : 2 ≤ c.pmpG
  · rw [if_pos coarse, if_neg (Nat.not_lt.2 coarse), toNat_or_fieldMask _ small, toNat_and_pmpAddrMask]
  · rw [if_neg coarse, if_pos (Nat.lt_of_not_le coarse), toNat_and_pmpAddrMask]

/-! ### The bytes an entry matches, by its mode (R408) -/

section
variable {c : Config} {p : Pmp} {i : Fin 64}

theorem pmpRange_off (h : pmpA (p.cfg.get i) = 0) : pmpRange c p i = (0, 0) := by simp [pmpRange, h]

theorem pmpRange_tor_first (h : pmpA (p.cfg.get i) = 1) (first : i.val = 0) :
    pmpRange c p i = (0, pmpAddr c p i / 2 ^ c.pmpG * 2 ^ c.pmpG * 4) := by
  simp only [pmpRange, h, if_pos first, toNat_pmpAddrView_of_tor (h.trans_lt Nat.one_lt_two)]

theorem pmpRange_tor {j : Fin 64} (h : pmpA (p.cfg.get i) = 1) (before : j.val + 1 = i.val) :
    pmpRange c p i =
      (pmpAddr c p j / 2 ^ c.pmpG * 2 ^ c.pmpG * 4, pmpAddr c p i / 2 ^ c.pmpG * 2 ^ c.pmpG * 4) := by
  have notFirst : ¬i.val = 0 := by omega
  have index : (⟨i.val - 1, by omega⟩ : Fin 64) = j := Fin.ext (by simp [← before])
  simp only [pmpRange, h, if_neg notFirst, toNat_pmpAddrView_of_tor (h.trans_lt Nat.one_lt_two), index,
    toNat_and_not_fieldMask, toNat_and_pmpAddrMask]

theorem pmpRange_na4 (h : pmpA (p.cfg.get i) = 2) (fine : c.pmpG = 0) :
    pmpRange c p i = (pmpAddr c p i * 4, pmpAddr c p i * 4 + 4) := by
  have g : c.pmpG < c.xlen := by
    rw [fine]
    exact lt_xlen_of_lt_32 c (by decide)
  have view : pmpNapotAddr c p i = pmpAddr c p i := if_pos (by omega)
  simp only [pmpRange, h, toNat_pmpAddrView_of_napot h.ge g, view]

theorem pmpRange_napot {t : Nat} (h : pmpA (p.cfg.get i) = 3) (g : c.pmpG < c.xlen) (le : t ≤ c.xlen)
    (ones : pmpNapotAddr c p i % 2 ^ t = 2 ^ t - 1) (zero : t < c.xlen → (pmpNapotAddr c p i).testBit t = false) :
    pmpRange c p i = (pmpNapotAddr c p i / 2 ^ (t + 1) * 2 ^ (t + 1) * 4,
      pmpNapotAddr c p i / 2 ^ (t + 1) * 2 ^ (t + 1) * 4 + 2 ^ (t + 3)) := by
  have view := toNat_pmpAddrView_of_napot (h.symm ▸ Nat.le_succ 2 : 2 ≤ pmpA (p.cfg.get i)) g
  have trailing : trailingOnes c.xlen (pmpAddrView c p i) = t := by
    refine trailingOnes_eq le (fun k hk => ?_) fun ht => ?_
    · rw [BitVec.getLsbD, view]
      exact testBit_of_mod_eq_ones ones hk
    · rw [BitVec.getLsbD, view]
      exact zero ht
  simp only [pmpRange, h, trailing, view]

end

/-! ### The entries together (R413) -/

section
variable {c : Config} {p : Pmp} {a n : Nat} {ty : Acc} {m : Priv}

/-- What an entry that touches the access decides. -/
def pmpDecision (c : Config) (p : Pmp) (a n : Nat) (ty : Acc) (m : Priv) (i : Fin 64) : Bool :=
  rangeCovers (pmpRange c p i) a n && (pmpPermits (p.cfg.get i) ty || (decide (m = .M) && !pmpL (p.cfg.get i)))

/-- With `k + 1` entries to go the scan tries entry `j`, the first of them. -/
theorem pmpScan_succ {k : Nat} {j : Fin 64} (h : j.val + k + 1 = c.pmpEntries) :
    pmpScan c p a n ty m (k + 1) =
      if rangeTouches (pmpRange c p j) a n then pmpDecision c p a n ty m j else pmpScan c p a n ty m k := by
  have index : (⟨(c.pmpEntries - 1 - k) % 64, Nat.mod_lt _ (by decide)⟩ : Fin 64) = j := Fin.ext (by simp; omega)
  rw [pmpScan, index, pmpDecision, Bool.or_comm, Bool.and_comm (!_), beq_eq_decide]

theorem exists_next_entry {k : Nat} (few : c.pmpEntries ≤ 64) (hk : k + 1 ≤ c.pmpEntries) :
    ∃ j : Fin 64, j.val + k + 1 = c.pmpEntries :=
  ⟨⟨c.pmpEntries - (k + 1), by omega⟩, by simp; omega⟩

theorem pmpScan_of_untouched (few : c.pmpEntries ≤ 64)
    (untouched : ∀ i : Fin 64, i.val < c.pmpEntries → rangeTouches (pmpRange c p i) a n = false) {k : Nat}
    (hk : k ≤ c.pmpEntries) : pmpScan c p a n ty m k = decide (m = .M) := by
  induction k with
  | zero => exact beq_eq_decide ..
  | succ k ih =>
    obtain ⟨j, hj⟩ := exists_next_entry few hk
    rw [pmpScan_succ hj, untouched j (by omega)]
    exact ih (Nat.le_of_succ_le hk)

/-- The scan skips the entries before the first that touches the access. -/
theorem pmpScan_of_first {i : Fin 64} (few : c.pmpEntries ≤ 64) (touched : rangeTouches (pmpRange c p i) a n = true)
    (before : ∀ j : Fin 64, j.val < i.val → rangeTouches (pmpRange c p j) a n = false) {k : Nat} (hk : k ≤ c.pmpEntries)
    (ahead : c.pmpEntries < i.val + k + 1) (implemented : i.val < c.pmpEntries) :
    pmpScan c p a n ty m k = pmpDecision c p a n ty m i := by
  induction k with
  | zero => omega
  | succ k ih =>
    obtain ⟨j, hj⟩ := exists_next_entry few hk
    rw [pmpScan_succ hj]
    by_cases here : j = i
    · rw [here, touched, if_pos rfl]
    · have earlier : j.val < i.val := by omega
      rw [before j earlier]
      exact ih (Nat.le_of_succ_le hk) (by omega)

theorem pmpCheck_eq_scan (implemented : 0 < c.pmpEntries) : pmpCheck c p a n ty m = pmpScan c p a n ty m c.pmpEntries := by
  simp [pmpCheck, Nat.ne_of_gt implemented]

end

/-- Settles O48: the scan stops at the first entry that touches the access, and each mode's range is an equation. -/
theorem pmpEntriesDecide : Obligations.PmpEntriesDecide := by
  unfold Obligations.PmpEntriesDecide
  refine ⟨fun c p a n ty m entries => ?_, fun c p i y g => ?_, fun r a n h => ⟨rangeTouches_iff r a h, rangeCovers_iff r a h⟩⟩
  · have few : c.pmpEntries ≤ 64 := by omega
    rw [pmpCheck_eq_scan (by omega)]
    exact ⟨fun untouched => pmpScan_of_untouched few untouched le_rfl,
      fun i implemented touched before => pmpScan_of_first few touched before le_rfl (by omega) implemented⟩
  · refine ⟨fun off => ?_, fun tor => ⟨fun first => ?_, fun j before => ?_⟩, fun na4 fine => ?_,
      fun napot t le ones zero => ?_⟩ <;> rw [rangeTouches_one]
    · simp [pmpRange_off off]
    · rw [pmpRange_tor_first tor first]
      exact and_iff_right (Nat.zero_le y)
    · rw [pmpRange_tor tor before]
      rfl
    · rw [pmpRange_na4 na4 fine]
      rfl
    · rw [pmpRange_napot napot g le ones zero]
      rfl

end Sys2Proof.Machine
end

section
/-! PROOF. What a CSR write leaves of the PMP settings: the configuration bytes one by one, the address registers, and the
locks (21_pmp R404 to R406, R410, R411). -/

namespace Sys2Proof.Machine

/-! ### Bytes of a word -/

/-- Each bit of joined bytes is one of the byte it falls in. -/
theorem getLsbD_ofBytes {bs : List Byte} {j k : Nat} (hk : k < 8) (hj : j < 8) :
    (ofBytes bs).getLsbD (8 * j + k) = (bs.getD j 0).getLsbD k := by
  induction bs generalizing j with
  | nil => simp [ofBytes]
  | cons b bs ih =>
    rw [ofBytes, BitVec.getLsbD_or, BitVec.getLsbD_setWidth, BitVec.getLsbD_shiftLeft]
    cases j with
    | zero =>
      have own : k < 64 := by omega
      simp [own, hk]
    | succ j =>
      have above : b.getLsbD (8 * (j + 1) + k) = false := BitVec.getLsbD_of_ge _ _ (by omega)
      have rest : 8 * (j + 1) + k - 8 = 8 * j + k := by omega
      have inside : 8 * (j + 1) + k < 64 := by omega
      have shifted : ¬8 * (j + 1) + k < 8 := by omega
      rw [above, rest, ih (by omega), List.getD_cons_succ]
      simp [inside, shifted]

/-- Byte `j` of a word as a number. -/
theorem toNat_byte (v : Word) (j : Nat) : ((v >>> (8 * j)).setWidth 8).toNat = getField v (8 * j) 8 :=
  BitVec.toNat_setWidth ..

/-! ### The fields of a configuration byte -/

/-- The byte with R, W and X of `rwx`, A of `mode`, L of `lock`, and zeros between (R406). -/
def pmpByteOf (rwx mode lock : BitVec 8) : BitVec 8 := rwx &&& 7 ||| mode &&& 0x18 ||| lock &&& 0x80

theorem and_implemented_bits (x : BitVec 8) : x &&& 0x9F = pmpByteOf x x x := by
  rw [pmpByteOf, ← BitVec.and_or_distrib_left, ← BitVec.and_or_distrib_left]
  rfl

theorem pmpByteOf_and_implemented_bits (rwx mode lock : BitVec 8) :
    pmpByteOf rwx mode lock &&& 0x9F = pmpByteOf rwx mode lock := by
  simp only [pmpByteOf, BitVec.and_or_distrib_right, BitVec.and_assoc]
  rfl

theorem toNat_pmpByteOf (rwx mode lock : BitVec 8) :
    (pmpByteOf rwx mode lock).toNat =
      rwx.toNat % 8 + 8 * (mode.toNat / 8 % 4) + 128 * (lock.toNat / 128) := by
  have low : (rwx &&& 7).toNat = rwx.toNat % 8 := Nat.and_two_pow_sub_one_eq_mod _ 3
  have middle : ∀ x : BitVec 8, (x &&& 0x18).toNat = 2 ^ 3 * (x.toNat / 8 % 4) := by decide
  have high : ∀ x : BitVec 8, (x &&& 0x80).toNat = 2 ^ 7 * (x.toNat / 128) := by decide
  rw [pmpByteOf, BitVec.toNat_or, BitVec.toNat_or, low, middle, high, Nat.or_comm (rwx.toNat % 8),
    ← Nat.two_pow_add_eq_or_of_lt (by omega), Nat.or_comm, ← Nat.two_pow_add_eq_or_of_lt (by omega)]
  omega

theorem pmpA_eq (x : BitVec 8) : pmpA x = x.toNat / 8 % 4 := by
  rw [pmpA, BitVec.toNat_ushiftRight, Nat.shiftRight_eq_div_pow]

theorem pmpL_eq (x : BitVec 8) : pmpL x = decide (x.toNat / 128 = 1) := by
  have bound := x.isLt
  rw [pmpL, BitVec.getLsbD, Nat.testBit_eq_decide_div_mod_eq, decide_eq_decide]
  omega

/-- The lock shows in the byte as read. -/
theorem pmpL_eq_read (x : BitVec 8) : pmpL x = decide ((x &&& 0x9F).toNat / 128 = 1) := by
  have bound := x.isLt
  rw [pmpL_eq, and_implemented_bits, toNat_pmpByteOf, decide_eq_decide]
  omega

/-- The model's test for R, W and X: any combination but W without R, the reserved one (R406). -/
theorem legal_rwx_eq (x : BitVec 8) : (x.getLsbD 0 || !x.getLsbD 1) = decide (x.toNat % 4 ≠ 2) := by
  simp only [BitVec.getLsbD, Nat.testBit_eq_decide_div_mod_eq, ← decide_not, ← Bool.decide_or, decide_eq_decide]
  omega

theorem pmpcfgLegal_of_locked (c : Config) {old : BitVec 8} (h : pmpL old = true) (v : BitVec 8) :
    pmpcfgLegal c old v = old :=
  if_pos h

theorem pmpcfgLegal_of_unlocked (c : Config) {old : BitVec 8} (h : pmpL old = false) (v : BitVec 8) :
    pmpcfgLegal c old v =
      pmpByteOf (if v.toNat % 4 = 2 then old else v) (if v.toNat / 8 % 4 = 2 ∧ 1 ≤ c.pmpG then old else v) v := by
  simp only [pmpcfgLegal, h, legal_rwx_eq, pmpA_eq, pmpByteOf, decide_eq_true_eq, ne_eq, ite_not,
    apply_ite (· &&& (7 : BitVec 8)), apply_ite (· &&& (0x18 : BitVec 8))]
  rfl

/-- The byte of an unlocked entry as read after a write of it. -/
theorem toNat_pmpcfgLegal_read (c : Config) {old : BitVec 8} (h : pmpL old = false) (v : BitVec 8) :
    (pmpcfgLegal c old v &&& 0x9F).toNat =
      (if v.toNat % 4 = 2 then (old &&& 0x9F).toNat % 8 else v.toNat % 8) +
        8 * (if v.toNat / 8 % 4 = 2 ∧ 1 ≤ c.pmpG then (old &&& 0x9F).toNat / 8 % 4 else v.toNat / 8 % 4) +
        128 * (v.toNat / 128) := by
  have rwx : (old &&& 0x9F).toNat % 8 = old.toNat % 8 := by
    rw [and_implemented_bits, toNat_pmpByteOf]
    omega
  have mode : (old &&& 0x9F).toNat / 8 % 4 = old.toNat / 8 % 4 := by
    rw [and_implemented_bits, toNat_pmpByteOf]
    omega
  rw [pmpcfgLegal_of_unlocked c h, pmpByteOf_and_implemented_bits, toNat_pmpByteOf, rwx, mode]
  simp only [apply_ite (fun x : BitVec 8 => x.toNat % 8), apply_ite (fun x : BitVec 8 => x.toNat / 8 % 4)]

/-! ### A write of configuration bytes -/

/-- One byte of a pmpcfg register written to entry `i`. -/
def pmpByteWrite (c : Config) (p : Pmp) (i : Nat) (b : BitVec 8) : Pmp :=
  if h : i < 64 then
    (if i < c.pmpEntries then { p with cfg := p.cfg.set i (pmpcfgLegal c (p.cfg.get ⟨i, h⟩) b) h } else p)
  else p

theorem pmpcfgWrite_cons (c : Config) (p : Pmp) (i : Nat) (rest : List Nat) (v : Word) :
    pmpcfgWrite c p (i :: rest) v = pmpcfgWrite c (pmpByteWrite c p i (v.setWidth 8)) rest (v >>> 8) :=
  rfl

section
variable (c : Config) (p : Pmp)

theorem pmpByteWrite_addr (i : Nat) (b : BitVec 8) : (pmpByteWrite c p i b).addr = p.addr := by
  unfold pmpByteWrite
  split
  · split <;> rfl
  · rfl

theorem pmpByteWrite_cfg (i : Nat) (b : BitVec 8) (k : Fin 64) :
    (pmpByteWrite c p i b).cfg.get k =
      if k.val = i ∧ i < c.pmpEntries then pmpcfgLegal c (p.cfg.get k) b else p.cfg.get k := by
  by_cases written : i < 64 ∧ i < c.pmpEntries
  · simp only [pmpByteWrite, dif_pos written.1, if_pos written.2, Vector.get_eq_getElem, Vector.getElem_set]
    grind
  · have same : pmpByteWrite c p i b = p := by
      unfold pmpByteWrite
      grind
    rw [same, if_neg (by omega)]

theorem pmpcfgWrite_addr (l : List Nat) (v : Word) : (pmpcfgWrite c p l v).addr = p.addr := by
  induction l generalizing p v with
  | nil => rfl
  | cons i rest ih => rw [pmpcfgWrite_cons, ih, pmpByteWrite_addr]

theorem pmpcfgWrite_cfg_of_notMem {l : List Nat} {k : Fin 64} (h : k.val ∉ l) (v : Word) :
    (pmpcfgWrite c p l v).cfg.get k = p.cfg.get k := by
  induction l generalizing p v with
  | nil => rfl
  | cons i rest ih =>
    obtain ⟨other, apart⟩ := List.ne_and_not_mem_of_not_mem_cons h
    rw [pmpcfgWrite_cons, ih _ apart, pmpByteWrite_cfg, if_neg fun same => other same.1]

/-- The entry listed at place `j` takes byte `j` of the word, as far as it is legal. -/
theorem pmpcfgWrite_cfg {l : List Nat} (distinct : l.Nodup) {j : Nat} {k : Fin 64} (listed : l[j]? = some k.val)
    (implemented : k.val < c.pmpEntries) (v : Word) :
    (pmpcfgWrite c p l v).cfg.get k = pmpcfgLegal c (p.cfg.get k) ((v >>> (8 * j)).setWidth 8) := by
  induction l generalizing p v j with
  | nil => simp at listed
  | cons i rest ih =>
    obtain ⟨apart, distinct⟩ := List.nodup_cons.1 distinct
    rw [pmpcfgWrite_cons]
    cases j with
    | zero =>
      obtain rfl : i = k.val := by simpa using listed
      rw [pmpcfgWrite_cfg_of_notMem c _ apart, pmpByteWrite_cfg, if_pos ⟨rfl, implemented⟩]
      simp
    | succ j =>
      rw [List.getElem?_cons_succ] at listed
      have other : k.val ≠ i := fun same => apart (same ▸ List.mem_of_getElem? listed)
      have next : v >>> 8 >>> (8 * j) = v >>> (8 * (j + 1)) := by
        rw [← BitVec.shiftRight_add, Nat.mul_add, Nat.add_comm]
      rw [ih _ distinct listed, pmpByteWrite_cfg, if_neg fun same => other same.1, next]

/-- R411: whatever is written to whichever entries, a locked one stays. -/
theorem pmpcfgWrite_cfg_of_locked {k : Fin 64} (h : pmpL (p.cfg.get k) = true) (l : List Nat) (v : Word) :
    (pmpcfgWrite c p l v).cfg.get k = p.cfg.get k := by
  induction l generalizing p v with
  | nil => rfl
  | cons i rest ih =>
    have same : (pmpByteWrite c p i (v.setWidth 8)).cfg.get k = p.cfg.get k := by
      rw [pmpByteWrite_cfg, pmpcfgLegal_of_locked c h, ite_self]
    rw [pmpcfgWrite_cons, ih _ (by rwa [same]), same]

end

/-! ### A write of an address register -/

section
variable (c : Config) (p : Pmp)

/-- What locks the address register of entry `i`: its own lock, or a locked TOR entry above it (R411). -/
theorem pmpaddrLocked_iff (i : Fin 64) :
    pmpaddrLocked c p i.val = true ↔ pmpL (p.cfg.get i) = true ∨
      ∃ j : Fin 64, j.val = i.val + 1 ∧ j.val < c.pmpEntries ∧ pmpL (p.cfg.get j) = true ∧ pmpA (p.cfg.get j) = 1 := by
  have at_entry (k : Fin 64) : p.cfg.toArray.getD k.val 0 = p.cfg.get k := by
    simp [Array.getD_eq_getD_getElem?, Vector.get_eq_getElem]
  simp only [pmpaddrLocked, Bool.or_eq_true, Bool.and_eq_true, decide_eq_true_eq, beq_iff_eq, at_entry]
  refine or_congr_right ⟨fun ⟨⟨implemented, lock⟩, tor⟩ => ?_, ?_⟩
  · by_cases inside : i.val + 1 < 64
    · rw [at_entry ⟨i.val + 1, inside⟩] at lock tor
      exact ⟨⟨i.val + 1, inside⟩, rfl, implemented, lock, tor⟩
    · have beyond : p.cfg.toArray.getD (i.val + 1) 0 = 0 := by
        rw [Array.getD, dif_neg (by simpa using inside)]
      rw [beyond] at lock
      cases lock
  · rintro ⟨j, next, implemented, lock, tor⟩
    rw [← next, at_entry]
    exact ⟨⟨implemented, lock⟩, tor⟩

theorem pmpaddrWrite_cfg (i : Nat) (v : Word) : (pmpaddrWrite c p i v).cfg = p.cfg := by
  unfold pmpaddrWrite
  split
  · split <;> rfl
  · rfl

theorem pmpaddrWrite_of_locked {i : Nat} (h : pmpaddrLocked c p i = true) (v : Word) : pmpaddrWrite c p i v = p := by
  simp [pmpaddrWrite, h]

theorem pmpaddrWrite_addr_of_ne {i : Nat} {k : Fin 64} (h : k.val ≠ i) (v : Word) :
    (pmpaddrWrite c p i v).addr.get k = p.addr.get k := by
  unfold pmpaddrWrite
  split
  case isTrue inside =>
    split
    · exact Vector.getElem_set_ne inside k.isLt (Ne.symm h)
    · rfl
  case isFalse => rfl

theorem pmpaddrWrite_addr {i : Fin 64} (implemented : i.val < c.pmpEntries) (unlocked : pmpaddrLocked c p i.val = false)
    (v : Word) : (pmpaddrWrite c p i.val v).addr.get i = v &&& pmpAddrMask c := by
  simp [pmpaddrWrite, implemented, unlocked, Vector.get_eq_getElem]

end

/-! ### The PMP settings after a CSR write -/

theorem setPmp_pmp (s : State) (p : Pmp) : (setPmp s p).pmp = p := by
  unfold setPmp
  split
  case isTrue same => exact same.symm
  case isFalse => split <;> rfl

/-- New settings change nothing else but the settings not yet synchronised (R417). -/
theorem setPmp_rest (s : State) (p : Pmp) :
    setPmp s p = { s with pmp := p, pmpStale := (setPmp s p).pmpStale, pmpStaleG := (setPmp s p).pmpStaleG } := by
  unfold setPmp
  split
  case isTrue same => rw [same]
  case isFalse => split <;> rfl

theorem csrWrite_pmpcfg (s : State) (n : Nat) (v : Word) :
    csrWrite s (.pmpcfg n) v = setPmp s (pmpcfgWrite s.cfg s.pmp (pmpcfgEntries s.cfg n) v) :=
  rfl

/-- Only the PMP's own registers reach its settings. -/
theorem csrWrite_pmp_cases (s : State) (r : Csr) (v : Word) :
    (csrWrite s r v).pmp = s.pmp ∨
    (∃ n, (csrWrite s r v).pmp = pmpcfgWrite s.cfg s.pmp (pmpcfgEntries s.cfg n) v) ∨
    ∃ n, (csrWrite s r v).pmp = pmpaddrWrite s.cfg s.pmp n v := by
  cases r with
  | pmpcfg n => exact .inr (.inl ⟨n, setPmp_pmp ..⟩)
  | pmpaddr n => exact .inr (.inr ⟨n, setPmp_pmp ..⟩)
  | menvcfg | menvcfgh | mip | sip | vsip | mtval | mhpmcounter | mhpmcounterh | mhpmevent =>
    left
    simp only [csrWrite, csrWrite.hpmWrite, setMenvcfg, setMip, setHvip]
    repeat' split
    all_goals rfl
  | _ => exact .inl rfl

/-! ### The registers as read -/

theorem xlen_eq_bytes (c : Config) : c.xlen = 8 * if c.rv64 then 8 else 4 := by
  unfold Config.xlen
  split <;> rfl

/-- Byte `j` of a pmpcfg register is entry `4n + j`'s (R404). -/
theorem getField_csrRead_pmpcfg (s : State) (n : Nat) {j : Nat} (h : j < if s.cfg.rv64 then 8 else 4) :
    getField (csrRead s (.pmpcfg n)) (8 * j) 8 = (pmpcfgByte s (4 * n + j)).toNat := by
  have eight : j < 8 := by split at h <;> omega
  have within (k : Nat) (hk : k < 8) : 8 * j + k < s.cfg.xlen := by
    rw [xlen_eq_bytes]
    omega
  have byte : ((pmpcfgEntries s.cfg n).map (pmpcfgByte s)).getD j 0 = pmpcfgByte s (4 * n + j) := by
    simp [pmpcfgEntries, h]
  rw [getField_eq_toNat, ← byte]
  refine congrArg _ (BitVec.eq_of_getLsbD_eq fun k hk => ?_)
  change ((wrap s.cfg (pmpcfgRead s n)).extractLsb' _ _).getLsbD k = _
  rw [BitVec.getLsbD_extractLsb', getLsbD_wrap, decide_eq_true hk, decide_eq_true (within k hk), pmpcfgRead,
    getLsbD_ofBytes hk eight, Bool.true_and, Bool.true_and]

theorem pmpcfgByte_of_implemented {s : State} {k : Fin 64} (h : k.val < s.cfg.pmpEntries) :
    pmpcfgByte s k.val = s.pmp.cfg.get k &&& 0x9F := by
  simp [pmpcfgByte, h, Array.getD_eq_getD_getElem?, Vector.get_eq_getElem]

theorem pmpcfgByte_of_not_implemented {s : State} {i : Nat} (h : s.cfg.pmpEntries ≤ i) : pmpcfgByte s i = 0 :=
  if_neg (Nat.not_lt.2 h)

/-- A pmpcfg register that exists holds entries below 64: at XLEN = 64 only the even ones exist (R404). -/
theorem pmpcfg_entry_lt {c : Config} {n j : Nat} (present : csrExists c (.pmpcfg n) = true) (hn : n < 16)
    (hj : j < if c.rv64 then 8 else 4) : 4 * n + j < 64 := by
  cases width : c.rv64 with
  | false =>
    simp only [width, Bool.false_eq_true, if_false] at hj
    omega
  | true =>
    have even : n % 2 = 0 := by simpa [csrExists, width] using present
    simp only [width, if_true] at hj
    omega

/-- An entry of the register after a write of it: its byte of the word, as far as it is legal. -/
theorem csrWrite_pmpcfg_cfg (s : State) {n j : Nat} (v : Word) {k : Fin 64} (entry : k.val = 4 * n + j)
    (hj : j < if s.cfg.rv64 then 8 else 4) (implemented : k.val < s.cfg.pmpEntries) :
    (csrWrite s (.pmpcfg n) v).pmp.cfg.get k =
      pmpcfgLegal s.cfg (s.pmp.cfg.get k) ((v >>> (8 * j)).setWidth 8) := by
  have distinct : (pmpcfgEntries s.cfg n).Nodup := List.nodup_range.map fun _ _ => Nat.add_left_cancel
  have listed : (pmpcfgEntries s.cfg n)[j]? = some k.val := by simp [pmpcfgEntries, hj, entry]
  rw [csrWrite_pmpcfg, setPmp_pmp, pmpcfgWrite_cfg _ _ distinct listed implemented]

theorem csrWrite_pmpcfg_cfg_of_apart (s : State) {n : Nat} (v : Word) {k : Fin 64}
    (apart : k.val < 4 * n ∨ 4 * n + (if s.cfg.rv64 then 8 else 4) ≤ k.val) :
    (csrWrite s (.pmpcfg n) v).pmp.cfg.get k = s.pmp.cfg.get k := by
  have unlisted : k.val ∉ pmpcfgEntries s.cfg n := by
    simp only [pmpcfgEntries, List.mem_map, List.mem_range]
    rintro ⟨x, hx, same⟩
    omega
  rw [csrWrite_pmpcfg, setPmp_pmp, pmpcfgWrite_cfg_of_notMem _ _ unlisted]

theorem csrWrite_pmpcfg_rest (s : State) (n : Nat) (v : Word) :
    let t := csrWrite s (.pmpcfg n) v
    t = { s with pmp := { s.pmp with cfg := t.pmp.cfg }, pmpStale := t.pmpStale, pmpStaleG := t.pmpStaleG } := by
  intro t
  have settings : t.pmp = pmpcfgWrite s.cfg s.pmp (pmpcfgEntries s.cfg n) v := setPmp_pmp ..
  have addr : t.pmp.addr = s.pmp.addr := by rw [settings, pmpcfgWrite_addr]
  have whole : { s.pmp with cfg := t.pmp.cfg } = t.pmp := congrArg (Pmp.mk t.pmp.cfg) addr.symm
  rw [whole, settings]
  exact setPmp_rest ..

/-- A pmpaddr register that holds the implemented bits of `v`, bit by bit as read (R405, R410; entry 50). -/
theorem getLsbD_csrRead_pmpaddr {s : State} {i : Fin 64} {v : Word} (implemented : i.val < s.cfg.pmpEntries)
    (holds : s.pmp.addr.get i = v &&& pmpAddrMask s.cfg) (k : Nat) :
    (csrRead s (.pmpaddr i.val)).getLsbD k =
      let held := decide (k < min (s.cfg.palen - 2) s.cfg.xlen) && v.getLsbD k
      if (s.pmp.cfg.get i).getLsbD 4 then held || (decide (k + 1 < s.cfg.pmpG) && decide (k < s.cfg.xlen))
      else held && decide (s.cfg.pmpG ≤ k) := by
  have read : csrRead s (.pmpaddr i.val) = wrap s.cfg (pmpAddrView s.cfg s.pmp i) := by
    have shown : pmpaddrRead s i.val = pmpAddrView s.cfg s.pmp i := by simp [pmpaddrRead, implemented]
    rw [← shown]
    rfl
  have width := xlen_le_64 s.cfg
  have masked : (s.pmp.addr.get i &&& pmpAddrMask s.cfg).getLsbD k =
      (decide (k < min (s.cfg.palen - 2) s.cfg.xlen) && v.getLsbD k) := by
    rw [holds, BitVec.and_assoc, BitVec.and_self, BitVec.getLsbD_and, pmpAddrMask, getLsbD_fieldMask]
    grind
  rw [read, getLsbD_wrap, pmpAddrView]
  split
  · split
    · rw [BitVec.getLsbD_or, masked, getLsbD_fieldMask]
      grind
    · rw [masked]
      grind
  · rw [BitVec.getLsbD_and, masked, BitVec.getLsbD_not, getLsbD_fieldMask]
    grind

theorem csrWrite_pmpaddr_rest (s : State) (n : Nat) (v : Word) :
    let t := csrWrite s (.pmpaddr n) v
    t = { s with pmp := { s.pmp with addr := t.pmp.addr }, pmpStale := t.pmpStale, pmpStaleG := t.pmpStaleG } := by
  intro t
  have settings : t.pmp = pmpaddrWrite s.cfg s.pmp n v := setPmp_pmp ..
  have cfg : t.pmp.cfg = s.pmp.cfg := by rw [settings, pmpaddrWrite_cfg]
  have whole : { s.pmp with addr := t.pmp.addr } = t.pmp := congrArg (Pmp.mk · t.pmp.addr) cfg.symm
  rw [whole, settings]
  exact setPmp_rest ..

/-! ### Locks -/

/-- No CSR write reaches the configuration byte of a locked entry (R411). -/
theorem csrWrite_cfg_of_locked (s : State) (r : Csr) (v : Word) {i : Fin 64} (lock : pmpL (s.pmp.cfg.get i) = true) :
    (csrWrite s r v).pmp.cfg.get i = s.pmp.cfg.get i := by
  obtain same | ⟨n, written⟩ | ⟨n, written⟩ := csrWrite_pmp_cases s r v
  · rw [same]
  · rw [written, pmpcfgWrite_cfg_of_locked _ _ lock]
  · rw [written, pmpaddrWrite_cfg]

/-- No CSR write reaches a locked address register. -/
theorem csrWrite_addr_of_locked (s : State) (r : Csr) (v : Word) {i : Fin 64}
    (lock : pmpaddrLocked s.cfg s.pmp i.val = true) : (csrWrite s r v).pmp.addr.get i = s.pmp.addr.get i := by
  obtain same | ⟨n, written⟩ | ⟨n, written⟩ := csrWrite_pmp_cases s r v
  · rw [same]
  · rw [written, pmpcfgWrite_addr]
  · rw [written]
    by_cases own : i.val = n
    · rw [← own, pmpaddrWrite_of_locked _ _ lock]
    · exact pmpaddrWrite_addr_of_ne _ _ own v

/-! ### The obligation on PMP writes -/

/-- Settles O22: the entry's byte as stored, seen through the read; the address as stored; the locks. -/
theorem pmpWritesKeepLocksAndLegalValues : Obligations.PmpWritesKeepLocksAndLegalValues := by
  unfold Obligations.PmpWritesKeepLocksAndLegalValues
  refine ⟨fun s n j v => ?_, fun s i v => ?_, fun s r v i implemented => ?_⟩
  · intro width t old new b present hn hj
    have inside : 4 * n + j < 64 := pmpcfg_entry_lt present hn hj
    obtain ⟨k, entry⟩ : ∃ k : Fin 64, k.val = 4 * n + j := ⟨⟨4 * n + j, inside⟩, rfl⟩
    have cfg : t.cfg = s.cfg := csrWrite_cfg ..
    have oldByte : old = (pmpcfgByte s k.val).toNat := entry ▸ getField_csrRead_pmpcfg s n hj
    have newByte : new = (pmpcfgByte t k.val).toNat := entry ▸ getField_csrRead_pmpcfg t n (cfg.symm ▸ hj)
    rw [← entry]
    refine ⟨fun beyond => ?_, fun implemented locked => ?_, fun implemented unlocked => ?_,
      fun i apart => csrWrite_pmpcfg_cfg_of_apart s v apart, csrWrite_pmpcfg_rest s n v⟩
    · rw [newByte, pmpcfgByte_of_not_implemented (cfg.symm ▸ beyond)]
      rfl
    · rw [oldByte, pmpcfgByte_of_implemented implemented] at locked
      have lock : pmpL (s.pmp.cfg.get k) = true := (pmpL_eq_read _).trans (decide_eq_true locked)
      rw [newByte, oldByte, pmpcfgByte_of_implemented implemented, pmpcfgByte_of_implemented (cfg.symm ▸ implemented),
        csrWrite_cfg_of_locked s _ v lock]
    · rw [oldByte, pmpcfgByte_of_implemented implemented] at unlocked
      have unlock : pmpL (s.pmp.cfg.get k) = false := (pmpL_eq_read _).trans (decide_eq_false (by omega))
      rw [newByte, oldByte, pmpcfgByte_of_implemented implemented, pmpcfgByte_of_implemented (cfg.symm ▸ implemented),
        csrWrite_pmpcfg_cfg s v entry hj implemented, toNat_pmpcfgLegal_read _ unlock, toNat_byte]
  · intro t implemented unlocked noTorAbove
    have unlock : pmpaddrLocked s.cfg s.pmp i.val = false := by
      rw [Bool.eq_false_iff, ne_eq, pmpaddrLocked_iff]
      rintro (lock | ⟨j, next, inside, lock, tor⟩)
      · rw [unlocked] at lock
        cases lock
      · exact noTorAbove j next inside lock tor
    have settings : t.pmp = pmpaddrWrite s.cfg s.pmp i.val v := setPmp_pmp ..
    have cfg : t.cfg = s.cfg := csrWrite_cfg ..
    have holds : t.pmp.addr.get i = v &&& pmpAddrMask t.cfg := by
      rw [settings, cfg, pmpaddrWrite_addr _ _ implemented unlock]
    refine ⟨fun k => ?_, fun j other => ?_, csrWrite_pmpaddr_rest s i.val v⟩
    · have read := getLsbD_csrRead_pmpaddr (cfg.symm ▸ implemented) holds k
      rwa [settings, pmpaddrWrite_cfg, cfg] at read
    · rw [settings, pmpaddrWrite_addr_of_ne _ _ (Fin.val_ne_of_ne other)]
  · refine ⟨fun lock => ⟨csrWrite_cfg_of_locked s r v lock, ?_⟩, fun j next inside lock tor => ?_⟩ <;>
      refine csrWrite_addr_of_locked s r v ((pmpaddrLocked_iff ..).2 ?_)
    · exact .inl lock
    · exact .inr ⟨j, next, inside, lock, tor⟩

end Sys2Proof.Machine
end

section
/-! PROOF. The page-table walk: what it makes of one entry, in the entry's bits, what it raises, and where nothing is walked. -/

namespace Sys2Proof.Machine

/-! ### The fields of an entry -/

theorem getField_eq_div_mod (w : Word) (lo len : Nat) : getField w lo len = w.toNat / 2 ^ lo % 2 ^ len := by
  rw [getField, BitVec.toNat_ushiftRight, Nat.shiftRight_eq_div_pow]

theorem Walk.pteSize_eq (w : Walk) : w.pteSize = 4 ∨ w.pteSize = 8 := by
  unfold Walk.pteSize
  split
  exacts [.inl rfl, .inr rfl]

theorem ptePpn_eq (w : Walk) (pte : Word) :
    ptePpn w pte = pte.toNat / 2 ^ 10 % (if w.pteSize = 4 then 2 ^ 22 else 2 ^ 44) := by
  unfold ptePpn
  split <;> exact getField_eq_div_mod ..

theorem pteLeaf_iff (pte : Word) : pteLeaf pte = true ↔ pte.getLsbD 1 = true ∨ pte.getLsbD 3 = true := by
  simp [pteLeaf, pteBit]

/-- The low four bits of the page number, of which a NAPOT entry makes an encoding (R460). -/
theorem ptePpn_mod_sixteen (w : Walk) (pte : Word) : ptePpn w pte % 16 = getField pte 10 4 := by
  rw [ptePpn_eq, getField_eq_div_mod]
  split <;> exact Nat.mod_mod_of_dvd _ (by decide)

/-- Step 3 of R448 and the checks of R460 and R462, which an entry of four bytes has no bits for. -/
theorem pteValid_iff (c : Config) (w : Walk) (i : Nat) (pte : Word) :
    pteValid c w i pte = true ↔
      pte.getLsbD 0 = true ∧ (pte.getLsbD 1 = true ∨ pte.getLsbD 2 = false) ∧
      (w.pteSize = 8 → getField pte 54 7 = 0 ∧
        (getField pte 61 2 ≠ 0 → c.extSvpbmt = true ∧ w.pbmt = true ∧ pteLeaf pte = true ∧ getField pte 61 2 ≠ 3) ∧
        (pte.getLsbD 63 = true → c.extSvnapot = true ∧ pteLeaf pte = true ∧ i = 0 ∧ ptePpn w pte % 16 = 8)) := by
  rw [ptePpn_mod_sixteen]
  obtain size | size := w.pteSize_eq
  · simp [pteValid, pteBit, size]
  · simp only [pteValid, pteNapot, pteBit, size]
    grind

/-- Step 5 of R448: the entry's bits for the type of access, and U for the privilege (R449). -/
theorem pteAllows_iff (w : Walk) (pte : Word) :
    pteAllows w pte = true ↔
      (match w.acc with
        | .exec => pte.getLsbD 3 = true
        | .hlvx => pte.getLsbD 3 = true
        | .load => pte.getLsbD 1 = true ∨ (w.mxr = true ∧ pte.getLsbD 3 = true)
        | .store => pte.getLsbD 2 = true) ∧
      (w.user = true → pte.getLsbD 4 = true) ∧
      (w.user = false → pte.getLsbD 4 = true → w.acc ≠ .exec ∧ w.sum = true) := by
  unfold pteAllows pteAllows.permitted pteBit
  cases w.acc <;> grind

theorem pteAligned_iff (w : Walk) (i : Nat) (pte : Word) :
    pteAligned w i pte = true ↔ ptePpn w pte % 2 ^ (w.vpnBits * i) = 0 := by
  simp [pteAligned]

theorem pteMarked_iff (w : Walk) (pte : Word) :
    pteMarked w pte = true ↔ pte.getLsbD 6 = true ∧ (w.acc = .store → pte.getLsbD 7 = true) := by
  simp only [pteMarked, pteBit]
  grind

theorem toNat_pteMark (w : Walk) (v : Word) :
    (pteMark w v).toNat = v.toNat ||| 64 ||| if w.acc = .store then 128 else 0 := by
  unfold pteMark maskIf bitMask
  by_cases store : w.acc = .store <;> simp [store]

/-- Step 8 of R448 at a level: of a NAPOT page, which lies at the last level, the low bits of the page number are the
address's (R460). -/
theorem leafAddr_of_valid {c : Config} {w : Walk} {i : Nat} {pte : Word} (valid : pteValid c w i pte = true) :
    leafAddr w i pte =
      (if w.pteSize = 8 ∧ pte.getLsbD 63 = true then ptePpn w pte / 16 * 16 + w.addr / 4096 % 16
        else ptePpn w pte / 2 ^ (w.vpnBits * i) * 2 ^ (w.vpnBits * i)) * 4096 +
      w.addr % (4096 * 2 ^ (w.vpnBits * i)) := by
  unfold leafAddr leafPpn pteBit
  dsimp only
  rw [Nat.pow_add]
  split
  · rename_i napot
    obtain ⟨-, -, wide⟩ := (pteValid_iff ..).1 valid
    obtain ⟨-, -, last⟩ := wide napot.1
    obtain ⟨-, -, rfl, -⟩ := last napot.2
    have vpn : w.vpn 0 % 16 = w.addr / 4096 % 16 := by
      have bits : 4 ≤ w.vpnBits + if w.stage = .g ∧ 0 + 1 = w.levels then 2 else 0 := by
        unfold Walk.vpnBits
        split <;> omega
      exact Nat.mod_mod_of_dvd _ (Nat.pow_dvd_pow 2 bits)
    rw [vpn]
    simp
  · rfl

/-- A leaf's memory type, where 3 has been refused (R462). -/
theorem leafPbmt_of_valid {c : Config} {w : Walk} {i : Nat} {pte : Word} (valid : pteValid c w i pte = true) :
    leafPbmt w pte =
      if w.pteSize = 4 ∨ getField pte 61 2 = 0 then .pma else if getField pte 61 2 = 1 then .nc else .io := by
  have bound : getField pte 61 2 < 4 := by
    rw [getField_eq_div_mod]
    omega
  obtain ⟨-, -, wide⟩ := (pteValid_iff ..).1 valid
  have size := w.pteSize_eq
  unfold leafPbmt
  grind

/-! ### What the walk makes of an entry -/

section
variable {c : Config} {r : Req} {w : Walk} {i : Nat} {pte : Word}

theorem pteUse_of_not_valid (h : pteValid c w i pte = false) : pteUse c r w i pte = .fault := by simp [pteUse, h]

theorem pteUse_of_pointer (valid : pteValid c w i pte = true) (pointer : pteLeaf pte = false) :
    pteUse c r w i pte = if i = 0 then .fault else .table := by
  simp [pteUse, valid, pointer]

theorem pteUse_of_leaf (valid : pteValid c w i pte = true) (leaf : pteLeaf pte = true) :
    pteUse c r w i pte =
      if pteAllows w pte = true ∧ pteAligned w i pte = true then
        (if pteMarked w pte = true then .leaf else if c.adUpdate = true ∧ mayMark r w pte = true then .mark else .fault)
      else .fault := by
  simp only [pteUse, valid, leaf]
  grind

/-- Only a valid leaf that allows the access and lacks A, or D for a store, is marked, and only by hardware that may. -/
theorem pteUse_eq_mark_iff :
    pteUse c r w i pte = .mark ↔ pteValid c w i pte = true ∧ pteLeaf pte = true ∧ pteAllows w pte = true ∧
      pteAligned w i pte = true ∧ pteMarked w pte = false ∧ c.adUpdate = true ∧ mayMark r w pte = true := by
  unfold pteUse
  grind

/-- A pointer is followed from a level above the last alone. -/
theorem pteUse_table_level (h : pteUse c r w i pte = .table) : i ≠ 0 := by
  unfold pteUse at h
  grind

end

/-! ### The walk at one level -/

/-- The walk below a level: at the last level a pointer is the walk's fault (R448 step 4). -/
def walkBelow (r : Req) (w : Walk) (loc : State → Nat → Bool → Res Mapping) : Nat → State → Nat → Bool → Res Mapping
  | 0 => fun s _ _ => .trap (w.fault r) s
  | i + 1 => walkFrom r w loc i

theorem walkBelow_of_ne_zero {r : Req} {w : Walk} {loc : State → Nat → Bool → Res Mapping} {i : Nat} (h : i ≠ 0) :
    walkBelow r w loc i = walkFrom r w loc (i - 1) := by
  cases i with
  | zero => exact absurd rfl h
  | succ i => rfl

/-- Every level of the walk is the same step. -/
theorem walkFrom_eq (r : Req) (w : Walk) (loc : State → Nat → Bool → Res Mapping) (i : Nat) :
    walkFrom r w loc i = walkLevel r w loc i (walkBelow r w loc i) := by
  cases i <;> rfl

/-- A read that no cached entry serves goes to memory, and leaves its value in the cache (R470). -/
theorem pteFetch_uncached {s s1 : State} {w : Walk} {q i : Nat} {g : Bool} {mem : State → Nat → Res Word} {pte : Word}
    (uncached : tcValues s w q i = []) (read : mem s q = .ok pte s1) :
    pteFetch s w q i g mem = .ok pte (tcAdd s1 w q i g pte) := by
  simp [pteFetch, uncached, read]

section
variable {r : Req} {w : Walk} {loc : State → Nat → Bool → Res Mapping} {s t : State} {i a : Nat} {g : Bool} {pte : Word}

/-- Once the entry is read, it decides how the walk goes on. -/
theorem walkFrom_fetched
    (fetched : pteFetch s w (a + w.vpn i * w.pteSize) i g
      (fun u p => (loc u p false).bind fun m u1 => pteRead r w u1 m) = .ok pte t) :
    walkFrom r w loc i s a g =
      walkOn t r w i g pte (walkBelow r w loc i)
        ((loc t (a + w.vpn i * w.pteSize) true).bind fun m t1 => (pteStorable r w t1 m).bind fun _ t2 =>
          pteUpdate t t2 r w (a + w.vpn i * w.pteSize) i g pte m (walkBelow r w loc i)) := by
  rw [walkFrom_eq, walkLevel, fetched, bind_ok]

variable {down : State → Nat → Bool → Res Mapping} {mark : Res Mapping}

theorem walkOn_fault (h : pteUse t.cfg r w i pte = .fault) : walkOn t r w i g pte down mark = .trap (w.fault r) t := by
  simp [walkOn, h]

theorem walkOn_table (h : pteUse t.cfg r w i pte = .table) :
    walkOn t r w i g pte down mark = down t (ptePpn w pte * 4096) (g || pte.getLsbD 5) := by
  simp [walkOn, h, pteBit]

theorem walkOn_leaf (h : pteUse t.cfg r w i pte = .leaf) :
    walkOn t r w i g pte down mark = .ok (leafMapping w i pte) t := by
  simp [walkOn, h]

theorem walkOn_mark (h : pteUse t.cfg r w i pte = .mark) : walkOn t r w i g pte down mark = mark := by
  simp [walkOn, h]

end

/-! ### The obligation on one step of the walk -/

/-- Settles O51: the entry read decides by `pteUse`, whose branches are the clauses. -/
theorem walkStepsDecide : Obligations.WalkStepsDecide := by
  unfold Obligations.WalkStepsDecide
  refine ⟨fun _ _ _ _ => rfl, ?_⟩
  intro r w loc s s1 i a g pte q uncached read pageFaults out t fault b leaf ppn pbmt napot valid typed allowed low marked page
  have cfg : t.cfg = s1.cfg := (tcAdd_touched ..).cfg
  have step := walkFrom_fetched (loc := loc) (pteFetch_uncached (g := g) uncached read)
  have isPpn : ptePpn w pte = ppn := ptePpn_eq w pte
  have isPbmt : getField pte 61 2 = pbmt := getField_eq_div_mod ..
  have isLeaf : pteLeaf pte = true ↔ leaf := pteLeaf_iff pte
  have isValid : pteValid t.cfg w i pte = true ↔ valid := by
    rw [pteValid_iff, cfg, isPpn, isPbmt, isLeaf, getField_eq_div_mod]
  have isAllowed : pteAllows w pte = true ↔ allowed := pteAllows_iff w pte
  have isAligned : pteAligned w i pte = true ↔ ppn % low = 0 := isPpn ▸ pteAligned_iff w i pte
  have isMarked : pteMarked w pte = true ↔ marked := pteMarked_iff w pte
  rw [← isValid, ← isLeaf, ← isAllowed, ← isAligned, ← isMarked]
  refine ⟨fun invalid => ?_, fun ok pointer last => ?_, fun ok pointer above => ?_, fun ok aLeaf refused => ?_,
    fun ok aLeaf allows aligned isSet => ?_⟩
  · exact step.trans (walkOn_fault (pteUse_of_not_valid (Bool.eq_false_iff.2 invalid)))
  · exact step.trans (walkOn_fault ((pteUse_of_pointer ok (Bool.eq_false_iff.2 pointer)).trans (if_pos last)))
  · refine (step.trans (walkOn_table ((pteUse_of_pointer ok (Bool.eq_false_iff.2 pointer)).trans (if_neg above)))).trans ?_
    rw [walkBelow_of_ne_zero above, isPpn]
  · refine step.trans (walkOn_fault ((pteUse_of_leaf ok aLeaf).trans ?_))
    rw [cfg, pageFaults]
    grind
  · refine (step.trans (walkOn_leaf ((pteUse_of_leaf ok aLeaf).trans ?_))).trans ?_
    · rw [if_pos ⟨allows, aligned⟩, if_pos isSet]
    · rw [leafMapping, leafAddr_of_valid ok, leafPbmt_of_valid ok, isPpn, isPbmt]

/-! ### What a walk raises -/

theorem Res.Answers.mono {α : Type} {P : α → Prop} {Q Q' : Exc → Prop} {r : Res α} (h : r.Answers P Q)
    (weaker : ∀ e, Q e → Q' e) : r.Answers P Q' := by
  cases r
  exacts [h, weaker _ h]

/-- The access fault of a request. -/
abbrev isAccessFault (r : Req) (e : Exc) : Prop := e = r.exc (accessFault r.acc) 0 none

theorem checkPhys_raises (s : State) (r : Req) (u : PmaUse) (t : Acc) (p : Priv) (m : Mapping) (len n : Nat) :
    (checkPhys s r u t p m len n).Answers (fun _ => True) (isAccessFault r) := by
  unfold checkPhys
  split
  · split
    exacts [trivial, rfl]
  · exact rfl

/-- A table access that the PMA or PMP forbids is an access fault of the original type (R445). -/
theorem pteRead_raises (r : Req) (w : Walk) (s : State) (m : Mapping) :
    (pteRead r w s m).Answers (fun _ => True) (isAccessFault r) := by
  unfold pteRead
  dsimp only
  split
  · exact rfl
  · exact answers_bind (checkPhys_raises ..) fun _ _ _ _ => answers_bind (physRead_answers ..) fun _ _ _ _ => trivial

theorem pteStorable_raises (r : Req) (w : Walk) (s : State) (m : Mapping) :
    (pteStorable r w s m).Answers (fun _ => True) (isAccessFault r) := by
  unfold pteStorable
  dsimp only
  split
  · exact rfl
  · exact checkPhys_raises ..

/-- The walk's own fault, or the access fault of its request. -/
def walkRaises (r : Req) (w : Walk) (e : Exc) : Prop := e = w.fault r ∨ isAccessFault r e

/-- What raises at most that; the values it gives are not of interest. -/
abbrev Res.Raises {α : Type} (r : Req) (w : Walk) (x : Res α) : Prop := x.Answers (fun _ => True) (walkRaises r w)

theorem walkOn_raises {s : State} {r : Req} {w : Walk} {i : Nat} {g : Bool} {pte : Word}
    {down : State → Nat → Bool → Res Mapping} {mark : Res Mapping} (hd : ∀ t a g, (down t a g).Raises r w)
    (hm : mark.Raises r w) : (walkOn s r w i g pte down mark).Raises r w := by
  unfold walkOn
  split
  exacts [.inl rfl, hd _ _ _, trivial, hm]

theorem pteUpdate_raises {before s : State} {r : Req} {w : Walk} {q i : Nat} {g : Bool} {pte : Word} {m : Mapping}
    {down : State → Nat → Bool → Res Mapping} (hd : ∀ t a g, (down t a g).Raises r w) :
    (pteUpdate before s r w q i g pte m down).Raises r w := by
  refine answers_bind ((pteRead_raises ..).mono fun _ => .inr) fun now s1 _ _ => ?_
  split
  exacts [trivial, walkOn_raises hd trivial]

/-- A walk whose entries are found without an exception raises its fault or the access fault, at every level. -/
theorem walkFrom_raises {r : Req} {w : Walk} {loc : State → Nat → Bool → Res Mapping}
    (hl : ∀ t a b, (loc t a b).Raises r w) (i : Nat) (s : State) (a : Nat) (g : Bool) :
    (walkFrom r w loc i s a g).Raises r w := by
  have level (i : Nat) (below : ∀ t a g, (walkBelow r w loc i t a g).Raises r w) (s : State) (a : Nat) (g : Bool) :
      (walkFrom r w loc i s a g).Raises r w := by
    rw [walkFrom_eq]
    refine answers_bind (pteFetch_answers _ _ _ _ _ fun t p => answers_bind (hl t p false) fun m t1 _ _ =>
      (pteRead_raises ..).mono fun _ => .inr) fun pte s1 _ _ => walkOn_raises below ?_
    exact answers_bind (hl s1 _ true) fun m s2 _ _ =>
      answers_bind ((pteStorable_raises ..).mono fun _ => .inr) fun _ s3 _ _ => pteUpdate_raises below
  induction i generalizing s a g with
  | zero => exact level 0 (fun _ _ _ => Or.inl rfl) s a g
  | succ i ih => exact level (i + 1) ih s a g

/-! ### The G stage -/

/-- The access type of the G stage's permission check (R484). -/
def gAcc (r : Req) : Option Bool → Acc
  | none => r.acc
  | some true => .store
  | some false => .load

/-- The G stage: Bare's identity, the fault of an address out of range, or a walk. -/
theorem gStage_eq (s : State) (r : Req) (gpa : Nat) (implicit : Option Bool) :
    gStage s r gpa implicit =
      if (gWalk s gpa (gAcc r implicit) implicit).levels = 0 then .ok (.plain gpa) s
      else if 2 ^ (14 + (gWalk s gpa (gAcc r implicit) implicit).vpnBits *
          (gWalk s gpa (gAcc r implicit) implicit).levels) ≤ gpa then
        .trap (r.exc (guestPageFault r.acc) gpa implicit) s
      else walk s r (gWalk s gpa (gAcc r implicit) implicit) physLoc := by
  rcases implicit with _ | _ | _ <;> rfl

theorem gStage_bare {s : State} (bare : atpMode s.cfg (hgatpRead s) = 0) (r : Req) (gpa : Nat) (implicit : Option Bool) :
    gStage s r gpa implicit = .ok (.plain gpa) s := by
  simp [gStage, gWalk, svLevels, bare]

/-- The guest physical addresses of a scheme end at 34, 41, 50 or 59 bits (R483). -/
theorem gWalk_range {s : State} {mode bits levels : Nat} (isMode : atpMode s.cfg (hgatpRead s) = mode)
    (scheme : (mode, bits, levels) ∈ [(1, 34, 2), (8, 41, 3), (9, 50, 4), (10, 59, 5)]) (gpa : Nat) (acc : Acc)
    (implicit : Option Bool) :
    let w := gWalk s gpa acc implicit
    w.levels = levels ∧ w.levels ≠ 0 ∧ 14 + w.vpnBits * w.levels = bits := by
  simp only [gWalk, Walk.vpnBits, isMode]
  simp only [List.mem_cons, Prod.mk.injEq, List.not_mem_nil, or_false] at scheme
  obtain ⟨rfl, rfl, rfl⟩ | ⟨rfl, rfl, rfl⟩ | ⟨rfl, rfl, rfl⟩ | ⟨rfl, rfl, rfl⟩ := scheme <;> decide

/-- The G stage raises the guest-page fault of its address or the access fault, both of the original type. -/
theorem gStage_raises (s : State) (r : Req) (gpa : Nat) (implicit : Option Bool) :
    (gStage s r gpa implicit).Raises r (gWalk s gpa (gAcc r implicit) implicit) := by
  rw [gStage_eq]
  split
  · trivial
  split
  · exact Or.inl rfl
  · exact walkFrom_raises (loc := physLoc) (fun _ _ _ => trivial) ..

/-- No entry without U grants a user-mode access. -/
theorem pteAllows_user {w : Walk} {pte : Word} (user : w.user = true) (h : pteAllows w pte = true) :
    pte.getLsbD 4 = true := by
  obtain ⟨-, granted, -⟩ := (pteAllows_iff w pte).1 h
  exact granted user

theorem getLsbD_wrap_of_lt {c : Config} {k : Nat} (h : k < c.xlen) (v : Word) : (wrap c v).getLsbD k = v.getLsbD k := by
  rw [getLsbD_wrap, decide_eq_true h, Bool.true_and]

/-- The PPN field of hgatp as a CSR read shows it. -/
theorem getField_csrRead_hgatp (s : State) :
    getField (csrRead s .hgatp) 0 (if s.cfg.rv64 then 44 else 22) = atpPpn s.cfg (hgatpRead s) := by
  have width : (if s.cfg.rv64 then 44 else 22) = (atpLayout s.cfg).idAt := by
    unfold atpLayout
    split <;> rfl
  rw [atpPpn_eq, width]
  exact getField_congr fun k hk => getLsbD_wrap_of_lt (by grind [atpLayout, Config.xlen]) (hgatpRead s)

theorem mstatusBit_eq_csrRead (s : State) {k : Nat} (h : k < 32) : mstatusBit s k = (csrRead s .mstatus).getLsbD k :=
  (getLsbD_wrap_of_lt (by grind [Config.xlen]) (mstatusRead s)).symm

/-! ### The obligation on the G stage -/

/-- Settles O53: `gStage` is Bare's identity, the range fault, or the walk of `gWalk`. -/
theorem guestStageFaults : Obligations.GuestStageFaults := by
  unfold Obligations.GuestStageFaults
  intro s r gpa implicit mode acc
  have isAcc : acc = gAcc r implicit := by rcases implicit with _ | _ | _ <;> rfl
  rw [isAcc]
  refine ⟨fun bare => gStage_bare bare r gpa implicit, fun bits scheme beyond => ?_, fun e t trap => ?_,
    fun bits levels scheme inside => ?_, fun m t _ ok _ => ?_⟩
  · obtain ⟨levels, scheme⟩ : ∃ levels, (mode, bits, levels) ∈ [(1, 34, 2), (8, 41, 3), (9, 50, 4), (10, 59, 5)] := by
      grind
    obtain ⟨-, paged, range⟩ := gWalk_range rfl scheme gpa (gAcc r implicit) implicit
    rw [gStage_eq, if_neg paged, range, if_pos beyond]
  · have raised : walkRaises r _ e := (gStage_raises s r gpa implicit).of_trap trap
    obtain rfl | rfl := raised
    exacts [⟨rfl, rfl, .inl rfl⟩, ⟨rfl, rfl, .inr rfl⟩]
  · obtain ⟨isLevels, paged, range⟩ := gWalk_range rfl scheme gpa (gAcc r implicit) implicit
    refine ⟨gWalk s gpa (gAcc r implicit) implicit, ?_, rfl, isLevels, rfl, rfl, rfl, rfl,
      mstatusBit_eq_csrRead s (by decide), rfl, rfl, ?_, rfl⟩
    · rw [gStage_eq, if_neg paged, range, if_neg (Nat.not_le.2 inside)]
    · rw [getField_csrRead_hgatp]
      rfl
  · exact ⟨(gStage_answers s r gpa implicit).of_ok ok, fun pte => pteAllows_user rfl⟩

/-! ### Translation without a walk -/

/-- Settles O49: each stage keeps the page offset. -/
theorem translationKeepsThePageOffset : Obligations.TranslationKeepsThePageOffset := by
  unfold Obligations.TranslationKeepsThePageOffset
  intro s s1 r m translated
  exact (translate_answers s r).of_ok translated

theorem translateS_bare {s : State} (bare : atpMode s.cfg (satpRead s) = 0) (r : Req) :
    translateS s r = .ok (.plain r.va.toNat) s := by
  simp [translateS, sWalk, svLevels, bare]

theorem translateV_bare {s : State} (vsBare : atpMode s.cfg (vsatpRead s) = 0) (gBare : atpMode s.cfg (hgatpRead s) = 0)
    (r : Req) : translateV s r = .ok (.plain r.va.toNat) s := by
  have first : translateVS s r = .ok (.plain r.va.toNat) s := by simp [translateVS, vsWalk, svLevels, vsBare]
  rw [translateV, first, bind_ok, gStage_bare gBare]
  rfl

/-- An address is canonical if it is a two's-complement number of the scheme's bits (R450 to R452). -/
theorem not_canonical {w : Walk} {va : Word} {bits : Nat} (addr : w.addr = va.toNat)
    (scheme : (w.levels = 3 ∧ bits = 39) ∨ (w.levels = 4 ∧ bits = 48) ∨ (w.levels = 5 ∧ bits = 57))
    (outside : va.toInt < -2 ^ (bits - 1) ∨ 2 ^ (bits - 1) ≤ va.toInt) : canonical w = false := by
  rw [BitVec.toInt_eq_toNat_cond] at outside
  have bound := va.isLt
  obtain ⟨levels, rfl⟩ | ⟨levels, rfl⟩ | ⟨levels, rfl⟩ := scheme <;>
    simp [canonical, Walk.pteSize, Walk.vpnBits, levels, addr] <;> omega

/-- Settles O50: no scheme, no walk; and a walk begins with a canonical address. -/
theorem bareIsIdentityAndNonCanonicalFaults : Obligations.BareIsIdentityAndNonCanonicalFaults := by
  unfold Obligations.BareIsIdentityAndNonCanonicalFaults
  refine ⟨fun s r bare => ?_, fun s r bits _ hasS below virt scheme outside => ?_⟩
  · by_cases machine : r.priv = .M
    · simp [translate, machine, Mapping.plain]
    · obtain ⟨virt, bare⟩ | ⟨virt, vsBare, gBare⟩ := bare.resolve_left machine
      · rw [translate, if_neg machine, if_neg (by simp [virt]), translateS_bare bare]
        rfl
      · rw [translate, if_neg machine, if_pos virt, translateV_bare vsBare gBare]
        rfl
  · have levels : ((sWalk s r).levels = 3 ∧ bits = 39) ∨ ((sWalk s r).levels = 4 ∧ bits = 48) ∨
        ((sWalk s r).levels = 5 ∧ bits = 57) := by
      simp only [sWalk, svLevels]
      grind
    have paged : ¬ ((decide ((sWalk s r).levels = 0) || !s.cfg.hasS) = true) := by
      simp only [hasS]
      grind
    have faults : translateS s r = .trap ((sWalk s r).fault r) s := by
      rw [translateS, if_neg paged, not_canonical (va := r.va) rfl levels outside]
      rfl
    rw [translate, if_neg below, if_neg (by simp [virt]), faults]
    rfl

end Sys2Proof.Machine
end

section
/-! PROOF. Hardware update of A and D: the compare and the store of step 7 of the walk (22_translation R446, R448). -/

namespace Sys2Proof.Machine

/-! ### What a read of a table leaves in the cache -/

/-- A read of a table entry changes the translation cache alone. -/
theorem tcAdd_eq (s : State) (w : Walk) (q i : Nat) (g : Bool) (pte : Word) :
    ∃ l, tcAdd s w q i g pte = { s with tc := l } := by
  have fold (f : Nat → TcEntry) (js : List Nat) (t : State) :
      ∃ l, js.foldl (fun t j => tcInsert t (f j)) t = { t with tc := l } := by
    induction js generalizing t with
    | nil => exact ⟨t.tc, rfl⟩
    | cons j js ih => exact ih (tcInsert t (f j))
  unfold tcAdd
  dsimp only
  split
  · exact fold _ _ _
  · exact ⟨_, rfl⟩

/-! ### Step 7's compare and store -/

section
variable {before s t : State} {r : Req} {w : Walk} {q i : Nat} {g : Bool} {pte now : Word} {m : Mapping}
  {down : State → Nat → Bool → Res Mapping}

/-- The entry is the one used: it is stored with its bits set. -/
theorem pteUpdate_same (read : pteRead r w s m = .ok pte t) :
    pteUpdate before s r w q i g pte m down = (pteSet w t m pte).bind fun _ u => .ok (leafMapping w i pte) u := by
  simp [pteUpdate, read]

/-- It has changed: the walk goes on from what it is now (entry 38). -/
theorem pteUpdate_changed (read : pteRead r w s m = .ok now t) (changed : now ≠ pte) :
    pteUpdate before s r w q i g pte m down =
      walkOn (readsOf before (tcAdd t w q i g now)) r w i g now down
        ((pteSet w (tcAdd t w q i g now) m now).bind fun _ u => .ok (leafMapping w i now) u) := by
  simp [pteUpdate, read, changed]

/-- What is in the cache does not matter to the store: in main memory it writes the marked entry's bytes and nothing else. -/
theorem pteSet_stores (main : isIo s.cfg m.pa w.pteSize = false) (wf : Memory.wf s.mem = true) (l : List TcEntry) (v : Word) :
    ∃ u, pteSet w { s with tc := l } m v = .ok () u ∧
      stored s u w.big m.pa w.pteSize (v.toNat ||| 64 ||| if w.acc = .store then 128 else 0) ∧
      u.regs = s.regs ∧ u.m = s.m ∧ u.plat = s.plat ∧ u.resv = s.resv := by
  have len : (orderBytes w.big (bytesOf w.pteSize (pteMark w v))).length = w.pteSize := by simp
  refine ⟨_, physWrite_main (by rwa [len]), ?_, rfl, rfl, rfl, rfl⟩
  rw [← toNat_pteMark]
  exact stored_storeBytes wf ..

end

/-- A speculative walk sets no D bit, and any other walk may set what is missing (R446, R473). -/
theorem mayMark_cases (r : Req) (w : Walk) (pte : Word) :
    (r.spec = false → mayMark r w pte = true) ∧
      (r.spec = true → w.acc = .store → pte.getLsbD 7 = false → mayMark r w pte = false) := by
  constructor
  · intro explicit
    simp [mayMark, explicit]
  · intro speculative store clean
    rw [mayMark, pteBit, speculative, store, clean]
    rfl

/-! ### The obligation on hardware update -/

/-- Settles O52: the branches of `pteUpdate`, with the entry as it was and as it has become. -/
theorem hardwareSetsAccessedAndDirty : Obligations.HardwareSetsAccessedAndDirty := by
  unfold Obligations.HardwareSetsAccessedAndDirty
  refine ⟨fun c r w i pte => ⟨?_, mayMark_cases r w pte⟩, ?_⟩
  · have unmarked : pteMarked w pte = false ↔
        pte.getLsbD 6 = false ∨ (w.acc = .store ∧ pte.getLsbD 7 = false) := by
      rw [← Bool.not_eq_true, pteMarked_iff]
      grind
    rw [pteUse_eq_mark_iff, unmarked]
  intro r w loc s t i a g pte q n out set fetched marks
  have step := (walkFrom_fetched fetched).trans (walkOn_mark marks)
  refine ⟨fun e u refused => ?_, fun m t1 located => ?_⟩
  · exact step.trans (by rw [refused, bind_trap])
  rw [located, bind_ok] at step
  refine ⟨fun e u refused => ⟨(pteStorable_raises r w t1 m).of_trap refused, ?_⟩, fun t2 now t3 storable read => ?_⟩
  · exact step.trans (by rw [refused, bind_trap])
  rw [storable, bind_ok] at step
  have storesFrom (l : List TcEntry) (v : Word)
      (ends : out = (pteSet w { t3 with tc := l } m v).bind fun _ u => .ok (leafMapping w i v) u)
      (main : isIo t3.cfg m.pa n = false) (wf : Memory.wf t3.mem = true) :
      ∃ u, out = .ok (leafMapping w i v) u ∧ stored t3 u w.big m.pa n (set v) ∧
        u.regs = t3.regs ∧ u.m = t3.m ∧ u.plat = t3.plat ∧ u.resv = t3.resv := by
    obtain ⟨u, wrote, rest⟩ := pteSet_stores main wf l v
    exact ⟨u, ends.trans (by rw [wrote, bind_ok]), rest⟩
  refine ⟨fun same => ?_, fun changed => ?_⟩
  · subst same
    exact storesFrom t3.tc now (step.trans (pteUpdate_same read))
  · rw [pteUpdate_changed read changed] at step
    obtain ⟨l, added⟩ := tcAdd_eq t3 w q i g now
    rw [added] at step
    cases use : pteUse t3.cfg r w i now with
    | fault => exact ⟨_, step.trans (walkOn_fault use), rfl, rfl⟩
    | table =>
      refine ⟨readsOf t { t3 with tc := l }, (step.trans (walkOn_table use)).trans ?_, rfl, rfl⟩
      rw [walkBelow_of_ne_zero (pteUse_table_level use)]
    | leaf => exact ⟨_, step.trans (walkOn_leaf use), rfl, rfl⟩
    | mark => exact storesFrom l now (step.trans (walkOn_mark use))

end Sys2Proof.Machine
end

section
/-! PROOF. SFENCE.VMA, SINVAL.VMA and the ordering fences: what a fence leaves of the translation cache, and who may run one
(22_translation R471, R477; 46_privileged R750; 47_svinval R771 to R775). -/

namespace Sys2Proof.Machine

/-! ### What a fence leaves in the cache -/

/-- An entry that still serves is one that could before, and fences have only barred it. -/
theorem tcServes_of_fenced {w : Walk} {q i a : Nat} {e : TcEntry}
    (h : tcServes w q i { e with fenced := a :: e.fenced } = true) : tcServes w q i e = true := by
  simp only [tcServes, tcFenced, List.any_cons, Bool.and_eq_true, Bool.not_eq_true'] at h ⊢
  grind

theorem matchesWalk_of_serves {w : Walk} {q i : Nat} {e : TcEntry} (h : tcServes w q i e = true) : matchesWalk e w q := by
  simp only [tcServes, Bool.and_eq_true, Bool.or_eq_true, beq_iff_eq] at h
  obtain ⟨⟨⟨⟨stage, addr⟩, asid⟩, vmid⟩, -⟩ := h
  exact ⟨stage, addr, or_assoc.1 asid, vmid⟩

theorem mem_tcValues {s : State} {w : Walk} {q i : Nat} {v : Word} :
    v ∈ tcValues s w q i ↔ ∃ e ∈ s.tc, tcServes w q i e = true ∧ e.pte = v := by
  simp [tcValues, and_assoc]

/-- `Fenced` speaks of the two caches alone. -/
theorem Fenced.congr {s t u : State} {sel : TcEntry → Prop} {addr : Option Nat} (h : Fenced s t sel addr)
    (same : u.tc = t.tc) : Fenced s u sel addr := by
  obtain ⟨gains, keeps, gone, removed⟩ := h
  have values (w : Walk) (q i : Nat) : tcValues u w q i = tcValues t w q i := by rw [tcValues, same, tcValues]
  refine ⟨fun w q i v => ?_, ?_, fun w q i v => ?_, ?_⟩
  · rw [values]
    exact gains w q i v
  · rwa [same]
  · rw [values, same]
    exact gone w q i v
  · rwa [same]

/-- After a fence with an address: an entry not selected is as it was; a selected one is left if it has not been used for the
address as a leaf, and is barred from it. -/
theorem mem_tcFence_some_cases {s : State} {p : TcEntry → Bool} {a : Nat} {e : TcEntry} :
    e ∈ (tcFence s p (some a)).tc ↔ (e ∈ s.tc ∧ p e = false) ∨
      ∃ f ∈ s.tc, p f = true ∧ tcUsed a f = false ∧ e = { f with fenced := a :: f.fenced } := by
  rw [mem_tcFence_some]
  constructor
  · rintro ⟨f, hf, left, rfl⟩
    cases selected : p f with
    | false => exact .inl ⟨hf, selected⟩
    | true => exact .inr ⟨f, hf, selected, by rwa [selected, Bool.true_and] at left, rfl⟩
  · rintro (⟨he, spared⟩ | ⟨f, hf, selected, unused, rfl⟩)
    · exact ⟨e, he, by rw [spared, Bool.false_and], by simp [spared]⟩
    · exact ⟨f, hf, by rw [unused, Bool.and_false], by simp [selected]⟩

/-- `tcFence` is the fence of R471 over the entries that `p` selects. -/
theorem fenced_tcFence {s : State} {p : TcEntry → Bool} {sel : TcEntry → Prop} (selects : ∀ e, p e = true ↔ sel e)
    (addr : Option Nat) : Fenced s (tcFence s p addr) sel addr := by
  have spared {e : TcEntry} : p e = false ↔ ¬ sel e := by rw [← selects, Bool.not_eq_true]
  cases addr with
  | none =>
    refine ⟨fun w q i v h => ?_, fun e h out => mem_tcFence_none.2 ⟨h, spared.2 out⟩, fun w q i v h _ => ?_, nofun⟩
    · obtain ⟨e, he, serves⟩ := mem_tcValues.1 h
      exact mem_tcValues.2 ⟨e, (mem_tcFence_none.1 he).1, serves⟩
    · obtain ⟨e, he, serves, value⟩ := mem_tcValues.1 h
      exact ⟨e, he, spared.1 (mem_tcFence_none.1 he).2, value, matchesWalk_of_serves serves⟩
  | some a =>
    refine ⟨fun w q i v h => ?_, fun e h out => mem_tcFence_some_cases.2 (.inl ⟨h, spared.2 out⟩), fun w q i v h names => ?_,
      fun b named e h leaf used => ?_⟩
    · obtain ⟨e, he, serves, value⟩ := mem_tcValues.1 h
      obtain ⟨he, -⟩ | ⟨f, hf, -, -, rfl⟩ := mem_tcFence_some_cases.1 he
      exacts [mem_tcValues.2 ⟨e, he, serves, value⟩, mem_tcValues.2 ⟨f, hf, tcServes_of_fenced serves, value⟩]
    · obtain ⟨e, he, serves, rfl⟩ := mem_tcValues.1 h
      obtain ⟨-, out⟩ | ⟨f, -, -, -, rfl⟩ := mem_tcFence_some_cases.1 he
      · exact ⟨e, he, spared.1 out, rfl, matchesWalk_of_serves serves⟩
      · obtain ⟨page, leaf⟩ := names a rfl
        have barred := tcFenced_of_mem (e := { f with fenced := a :: f.fenced }) List.mem_cons_self leaf page
        simp [tcServes, barred] at serves
    · cases named
      obtain ⟨-, out⟩ | ⟨f, -, -, unused, rfl⟩ := mem_tcFence_some_cases.1 h
      · exact spared.1 out
      · obtain ⟨page, inUsed, isPage⟩ := used
        have usedFor : tcUsed a f = true := by
          simp only [tcUsed, Bool.and_eq_true, List.any_eq_true, beq_iff_eq]
          exact ⟨leaf, page, inUsed, isPage⟩
        rw [usedFor] at unused
        cases unused

/-! ### The operands of a fence (R471) -/

/-- The entries of the address space that rs2 names: all if it is x0, else those of the ASID that are not global. -/
def ofAsid (s : State) (rs2 : Reg) (e : TcEntry) : Prop :=
  rs2 = 0 ∨ (e.asid = uReg s rs2 % 2 ^ s.cfg.asidLen ∧ e.global = false)

theorem fenceOperand_of_ne {r : Reg} (h : r ≠ 0) (s : State) : fenceOperand s r = some (rX s r) := if_neg h

theorem namesAsid_iff (s : State) (rs2 : Reg) (e : TcEntry) :
    namesAsid ((fenceOperand s rs2).map (fenceAsid s.cfg)) e = true ↔ ofAsid s rs2 e := by
  obtain rfl | h := eq_or_ne rs2 0
  · exact iff_of_true rfl (.inl rfl)
  · have asid : fenceAsid s.cfg (rX s rs2) = uReg s rs2 % 2 ^ s.cfg.asidLen := by simp [fenceAsid, getField, uReg]
    rw [fenceOperand_of_ne h, Option.map_some, asid, ofAsid, or_iff_right h]
    simp [namesAsid]

theorem fenceOperand_addr (s : State) (rs1 : Reg) : (fenceOperand s rs1).map BitVec.toNat = namedAddr s rs1 1 := by
  unfold fenceOperand namedAddr uReg
  split <;> simp

theorem fenceOperand_all (s : State) (rs1 : Reg) (f : Word → Bool) :
    (fenceOperand s rs1).all f = true ↔ rs1 = 0 ∨ f (rX s rs1) = true := by
  obtain rfl | h := eq_or_ne rs1 0
  · exact iff_of_true rfl (.inl rfl)
  · rw [fenceOperand_of_ne h, Option.all_some, or_iff_right h]

/-! ### The two fences of SFENCE.VMA -/

/-- A fence changes the cache alone. -/
theorem tcFence_eq (s : State) (p : TcEntry → Bool) (a : Option Nat) :
    tcFence s p a = { s with tc := (tcFence s p a).tc } := by
  cases a <;> rfl

theorem fenceSingle_eq (s : State) (rs1 rs2 : Reg) : fenceSingle s rs1 rs2 = { s with tc := (fenceSingle s rs1 rs2).tc } := by
  unfold fenceSingle
  dsimp only
  split
  exacts [tcFence_eq .., rfl]

theorem fenceVs_eq (s : State) (rs1 rs2 : Reg) : fenceVs s rs1 rs2 = { s with tc := (fenceVs s rs1 rs2).tc } := by
  unfold fenceVs
  dsimp only
  split
  exacts [tcFence_eq .., rfl]

/-- The fence over satp's tables, of x0 or a valid address (R471). -/
theorem fenced_fenceSingle {s : State} {rs1 : Reg} (rs2 : Reg)
    (h : rs1 = 0 ∨ validVa s.cfg (satpRead s) (rX s rs1) = true) :
    Fenced s (fenceSingle s rs1 rs2) (fun e => e.stage = .single ∧ ofAsid s rs2 e) (namedAddr s rs1 1) := by
  rw [fenceSingle, if_pos ((fenceOperand_all ..).2 h), fenceOperand_addr]
  exact fenced_tcFence (fun e => by rw [Bool.and_eq_true, beq_iff_eq, namesAsid_iff]) _

theorem fenceSingle_invalid {s : State} {rs1 : Reg} (rs2 : Reg) (named : rs1 ≠ 0)
    (h : validVa s.cfg (satpRead s) (rX s rs1) = false) : fenceSingle s rs1 rs2 = s :=
  if_neg fun ok => ((fenceOperand_all ..).1 ok).elim named (by simp [h])

/-- The fence over vsatp's tables of the current VMID (R477). -/
theorem fenced_fenceVs {s : State} {rs1 : Reg} (rs2 : Reg)
    (h : rs1 = 0 ∨ validVa s.cfg (vsatpRead s) (rX s rs1) = true) :
    Fenced s (fenceVs s rs1 rs2) (fun e => e.stage = .vs ∧ e.vmid = vmidOf s ∧ ofAsid s rs2 e) (namedAddr s rs1 1) := by
  rw [fenceVs, if_pos ((fenceOperand_all ..).2 h), fenceOperand_addr]
  refine fenced_tcFence (fun e => ?_) _
  rw [Bool.and_eq_true, Bool.and_eq_true, beq_iff_eq, beq_iff_eq, namesAsid_iff, and_assoc]

theorem fenceVs_invalid {s : State} {rs1 : Reg} (rs2 : Reg) (named : rs1 ≠ 0)
    (h : validVa s.cfg (vsatpRead s) (rX s rs1) = false) : fenceVs s rs1 rs2 = s :=
  if_neg fun ok => ((fenceOperand_all ..).1 ok).elim named (by simp [h])

/-- SFENCE.VMA with V = 0: the fence over satp's tables and, with x0, x0 in M-mode, the synchronised PMP (21_pmp R418). -/
theorem sfence_of_not_virt {s : State} (virt : s.virt = false) (rs1 rs2 : Reg) :
    sfence s rs1 rs2 = { s with
      tc := (fenceSingle s rs1 rs2).tc
      pmpStale := if s.priv = .M ∧ rs1 = 0 ∧ rs2 = 0 then [] else s.pmpStale } := by
  rw [sfence, if_neg (by simp [virt]), fenceSingle_eq, syncPmp]
  dsimp only
  split <;> rfl

theorem sfence_of_virt {s : State} (virt : s.virt = true) (rs1 rs2 : Reg) :
    sfence s rs1 rs2 = { s with tc := (fenceVs s rs1 rs2).tc } := by
  rw [sfence, if_pos virt]
  exact fenceVs_eq ..

/-! ### Instructions that retire after a permission check -/

section
variable {i : Instr} {s : State} {denied : State → Option Denied} {effect : State → State}
  (body : exec i s = run i s fun s => permit i s (denied s) (.ok () (retire (effect s))))
  (available : i.available s.cfg = true)
include body available

theorem exec_permitted (h : denied s = none) : exec i s = .next (retire (effect s)) := by
  rw [body, run_available available, permit_none h]
  rfl

theorem exec_denied_illegal (h : denied s = some .illegal) : traps i s (illegalExc (encode i)) := by
  rw [traps, body, run_available available, h]
  rfl

theorem exec_denied_virtual (h : denied s = some .virtual) : traps i s (virtualExc (encode i)) := by
  rw [traps, body, run_available available, h]
  rfl

end

/-- What retires after an effect on other state than the registers, pc, the machine CSRs and memory. -/
theorem retire_frame {s u : State} (cfg : u.cfg = s.cfg) (regs : u.regs = s.regs) (pc : u.pc = s.pc) (m : u.m = s.m)
    (mem : u.mem = s.mem) :
    sameRegs s (retire u) ∧ sameBytes s (retire u) ∧ wentTo s (retire u) (ofXlen s.cfg (s.pc.toNat + 4)) := by
  refine ⟨sameRegs_retire cfg regs, fun a => ?_, nextPc_eq_ofXlen s ▸ wentTo_retire cfg pc m⟩
  rw [retire, retireTo_mem, mem]

/-! ### The obligation -/

/-- Settles O31: permitted, the two instructions are `sfence`; the ordering fences have no effect but to retire. -/
theorem supervisorFencesActOrTrap : Obligations.SupervisorFencesActOrTrap := by
  unfold Obligations.SupervisorFencesActOrTrap
  refine ⟨fun s rs1 rs2 i form available => ?_, fun s i form available => ?_⟩
  · intro named
    have body : exec i s = run i s fun s => permit i s (sfenceDenied s) (.ok () (retire (sfence s rs1 rs2))) := by
      obtain rfl | rfl := form <;> rfl
    refine ⟨fun virt mode => ?_, fun virt super vtvm => ?_, fun virt mode => ?_, fun virt mode => ?_⟩
    · have permitted : sfenceDenied s = none := by grind [sfenceDenied]
      have ran := exec_permitted body available permitted
      rw [sfence_of_not_virt virt] at ran
      obtain ⟨regs, bytes, went⟩ := retire_frame (s := s) (u := { s with
        tc := (fenceSingle s rs1 rs2).tc
        pmpStale := if s.priv = .M ∧ rs1 = 0 ∧ rs2 = 0 then [] else s.pmpStale }) rfl rfl rfl rfl rfl
      refine ⟨_, ran, regs, bytes, went, ?_, ?_, fun valid => ?_, fun operand invalid => ?_⟩
      · rw [retire_eq]
        rfl
      · rw [retire, retireTo_pmpStale]
      · exact (fenced_fenceSingle rs2 valid).congr (by rw [retire, retireTo_tc])
      · rw [retire, retireTo_tc, fenceSingle_invalid rs2 operand invalid]
    · have permitted : sfenceDenied s = none := by grind [sfenceDenied]
      have ran := exec_permitted body available permitted
      rw [sfence_of_virt virt] at ran
      obtain ⟨regs, bytes, went⟩ := retire_frame (s := s) (u := { s with tc := (fenceVs s rs1 rs2).tc }) rfl rfl rfl rfl rfl
      refine ⟨_, ran, regs, bytes, went, ?_, fun valid => ?_, fun operand invalid => ?_⟩
      · rw [retire_eq]
        rfl
      · exact (fenced_fenceVs rs2 valid).congr (by rw [retire, retireTo_tc])
      · rw [retire, retireTo_tc, fenceVs_invalid rs2 operand invalid]
    · exact exec_denied_illegal body available (by grind [sfenceDenied])
    · exact exec_denied_virtual body available (by grind [sfenceDenied])
  · have body : exec i s = run i s fun s => permit i s (orderDenied s) (.ok () (retire (id s))) := by
      obtain rfl | rfl := form <;> rfl
    refine ⟨fun mode => ?_, fun user virt => ?_, fun user virt => ?_⟩
    · obtain ⟨regs, bytes, went⟩ := retire_frame (s := s) (u := s) rfl rfl rfl rfl rfl
      exact ⟨_, exec_permitted body available (by simp [orderDenied, mode]), regs, went, bytes, sameRest_retire rfl⟩
    · exact exec_denied_illegal body available (by simp [orderDenied, user, virt])
    · exact exec_denied_virtual body available (by simp [orderDenied, user, virt])

end Sys2Proof.Machine
end

section
/-! PROOF. The decoder and the encoder are inverse to each other (30_encoding R504, R505, R513): a word and its fields, the
immediates of each format and back, then one lemma per major opcode. With it, the words R503 calls illegal. -/

namespace Sys2Proof

open BitVec (extractLsb'_append_eq_of_le extractLsb'_append_eq_of_add_le extractLsb'_append_extractLsb'_eq_extractLsb'
  extractLsb'_eq_self)

/-! ### A word and its fields (R504) -/

theorem unpack_pack (r : Raw) : unpack (pack r) = r := by
  simp (disch := decide) only [unpack, pack, extractLsb'_append_eq_of_le, extractLsb'_append_eq_of_add_le, Nat.reduceSub,
    extractLsb'_eq_self]

theorem pack_unpack (w : Inst) : pack (unpack w) = w := by
  simp (disch := decide) only [unpack, pack, extractLsb'_append_extractLsb'_eq_extractLsb', extractLsb'_eq_self]

theorem op_unpack (w : Inst) : (unpack w).op = (w.extractLsb' 0 16).extractLsb' 0 7 :=
  (BitVec.extractLsb'_extractLsb'_of_le (by decide)).symm

/-- FENCE's mode and sets put together again (40_rv32i R606). -/
theorem fence_sets_append (imm : BitVec 12) :
    imm.extractLsb' 8 4 ++ imm.extractLsb' 4 4 ++ imm.extractLsb' 0 4 = imm := by
  simp (disch := decide) only [extractLsb'_append_extractLsb'_eq_extractLsb', extractLsb'_eq_self]

/-! ### The operands of a format are read back (R505, R506) -/

section
variable (op : BitVec 7) (f3 : BitVec 3) (rd rs1 rs2 : Reg)

@[simp] theorem immI_rawI (imm : BitVec 12) : (rawI op f3 rd rs1 imm).immI = imm := by
  simp (disch := decide) only [rawI, Raw.immI, extractLsb'_append_extractLsb'_eq_extractLsb', extractLsb'_eq_self]

@[simp] theorem immS_rawS (imm : BitVec 12) : (rawS op f3 rs1 rs2 imm).immS = imm := by
  simp (disch := decide) only [rawS, Raw.immS, extractLsb'_append_extractLsb'_eq_extractLsb', extractLsb'_eq_self]

@[simp] theorem immB_rawB (imm : BitVec 12) : (rawB op f3 rs1 rs2 imm).immB = imm := by
  simp (disch := decide) only [rawB, Raw.immB, extractLsb'_append_eq_of_le, extractLsb'_append_eq_of_add_le, Nat.reduceSub,
    extractLsb'_append_extractLsb'_eq_extractLsb', extractLsb'_eq_self]

@[simp] theorem immU_rawU (imm : BitVec 20) : (rawU op rd imm).immU = imm := by
  simp (disch := decide) only [rawU, Raw.immU, extractLsb'_append_extractLsb'_eq_extractLsb', extractLsb'_eq_self]

@[simp] theorem immJ_rawJ (imm : BitVec 20) : (rawJ op rd imm).immJ = imm := by
  simp (disch := decide) only [rawJ, Raw.immJ, extractLsb'_append_eq_of_le, extractLsb'_append_eq_of_add_le, Nat.reduceSub,
    extractLsb'_append_extractLsb'_eq_extractLsb', extractLsb'_eq_self]

@[simp] theorem shamt_rawShift (f6 shamt : BitVec 6) : (rawShift f6 f3 rd rs1 shamt).shamt = shamt := by
  simp (disch := decide) only [rawShift, Raw.shamt, extractLsb'_append_eq_of_add_le,
    extractLsb'_append_extractLsb'_eq_extractLsb', extractLsb'_eq_self]

@[simp] theorem f6_rawShift (f6 shamt : BitVec 6) : (rawShift f6 f3 rd rs1 shamt).f7.extractLsb' 1 6 = f6 := by
  simp (disch := decide) only [rawShift, extractLsb'_append_eq_of_le, extractLsb'_eq_self, Nat.reduceSub]

@[simp] theorem op_rawShift (f6 shamt : BitVec 6) : (rawShift f6 f3 rd rs1 shamt).op = 0b0010011#7 := rfl
@[simp] theorem f3_rawShift (f6 shamt : BitVec 6) : (rawShift f6 f3 rd rs1 shamt).f3 = f3 := rfl
@[simp] theorem rd_rawShift (f6 shamt : BitVec 6) : (rawShift f6 f3 rd rs1 shamt).rd = rd := rfl
@[simp] theorem rs1_rawShift (f6 shamt : BitVec 6) : (rawShift f6 f3 rd rs1 shamt).rs1 = rs1 := rfl

section
variable (f5 : BitVec 5) (aq rl : Bool)

@[simp] theorem op_rawAmo : (rawAmo f5 f3 aq rl rd rs1 rs2).op = 0b0101111#7 := rfl
@[simp] theorem f3_rawAmo : (rawAmo f5 f3 aq rl rd rs1 rs2).f3 = f3 := rfl
@[simp] theorem rd_rawAmo : (rawAmo f5 f3 aq rl rd rs1 rs2).rd = rd := rfl
@[simp] theorem rs1_rawAmo : (rawAmo f5 f3 aq rl rd rs1 rs2).rs1 = rs1 := rfl
@[simp] theorem rs2_rawAmo : (rawAmo f5 f3 aq rl rd rs1 rs2).rs2 = rs2 := rfl

@[simp] theorem f5_rawAmo : (rawAmo f5 f3 aq rl rd rs1 rs2).f7.extractLsb' 2 5 = f5 := by
  simp (disch := decide) only [rawAmo, rawR, extractLsb'_append_eq_of_le, Nat.reduceSub, extractLsb'_eq_self]

@[simp] theorem aq_rawAmo : (rawAmo f5 f3 aq rl rd rs1 rs2).aq = aq := by
  unfold Raw.aq rawAmo rawR
  rw [BitVec.getLsbD_append, if_neg (by decide), BitVec.getLsbD_append, if_pos (by decide)]
  cases aq <;> rfl

@[simp] theorem rl_rawAmo : (rawAmo f5 f3 aq rl rd rs1 rs2).rl = rl := by
  unfold Raw.rl rawAmo rawR
  rw [BitVec.getLsbD_append, if_pos (by decide)]
  cases rl <;> rfl

end

end

/-! ### A format filled with the fields of `r` is `r` -/

section
variable {r : Raw} {op : BitVec 7} {f3 : BitVec 3} {rd rs1 rs2 : Reg}

theorem rawR_eq {f7 : BitVec 7} (hop : r.op = op) (hf3 : r.f3 = f3) (hf7 : r.f7 = f7) (hrd : r.rd = rd)
    (hrs1 : r.rs1 = rs1) (hrs2 : r.rs2 = rs2) : rawR op f3 f7 rd rs1 rs2 = r := by
  subst_vars
  rfl

theorem rawI_eq {imm : BitVec 12} (hop : r.op = op) (hf3 : r.f3 = f3) (hrd : r.rd = rd) (hrs1 : r.rs1 = rs1)
    (himm : r.immI = imm) : rawI op f3 rd rs1 imm = r := by
  subst_vars
  simp (disch := decide) only [rawI, Raw.immI, extractLsb'_append_eq_of_le, extractLsb'_append_eq_of_add_le, Nat.reduceSub,
    extractLsb'_eq_self]

theorem rawS_immS (hop : r.op = op) (hf3 : r.f3 = f3) : rawS op f3 r.rs1 r.rs2 r.immS = r := by
  subst_vars
  simp (disch := decide) only [rawS, Raw.immS, extractLsb'_append_eq_of_le, extractLsb'_append_eq_of_add_le, Nat.reduceSub,
    extractLsb'_eq_self]

theorem rawB_immB (hop : r.op = op) (hf3 : r.f3 = f3) : rawB op f3 r.rs1 r.rs2 r.immB = r := by
  subst_vars
  simp (disch := decide) only [rawB, Raw.immB, extractLsb'_append_eq_of_le, extractLsb'_append_eq_of_add_le, Nat.reduceSub,
    extractLsb'_append_extractLsb'_eq_extractLsb', extractLsb'_eq_self]

theorem rawU_immU (hop : r.op = op) : rawU op r.rd r.immU = r := by
  subst_vars
  simp (disch := decide) only [rawU, Raw.immU, extractLsb'_append_eq_of_le, extractLsb'_append_eq_of_add_le, Nat.reduceSub,
    extractLsb'_eq_self]

theorem rawJ_immJ (hop : r.op = op) : rawJ op r.rd r.immJ = r := by
  subst_vars
  simp (disch := decide) only [rawJ, Raw.immJ, extractLsb'_append_eq_of_le, extractLsb'_append_eq_of_add_le, Nat.reduceSub,
    Nat.sub_add_eq, extractLsb'_append_extractLsb'_eq_extractLsb', extractLsb'_eq_self]

theorem rawShift_shamt {f6 : BitVec 6} (hop : r.op = 0b0010011#7) (hf3 : r.f3 = f3) (hf6 : r.f7.extractLsb' 1 6 = f6) :
    rawShift f6 f3 r.rd r.rs1 r.shamt = r := by
  subst_vars
  simp (disch := decide) only [rawShift, ← hop, Raw.shamt, extractLsb'_append_eq_of_le, extractLsb'_append_eq_of_add_le,
    Nat.reduceSub, extractLsb'_append_extractLsb'_eq_extractLsb', extractLsb'_eq_self]

theorem rawAmo_eq {f5 : BitVec 5} (hop : r.op = 0b0101111#7) (hf3 : r.f3 = f3) (hf5 : r.f7.extractLsb' 2 5 = f5)
    (hrs2 : r.rs2 = rs2) : rawAmo f5 f3 r.aq r.rl r.rd r.rs1 rs2 = r := by
  have bit (n : Nat) : BitVec.ofBool (r.f7.getLsbD n) = r.f7.extractLsb' n 1 := by
    ext k hk
    obtain rfl : k = 0 := by omega
    simp
  subst_vars
  simp (disch := decide) only [rawAmo, rawR, Raw.aq, Raw.rl, bit, ← hop,
    extractLsb'_append_extractLsb'_eq_extractLsb', extractLsb'_eq_self]

end

/-! ### The words that belong to a narrower row (R530) -/

theorem not_addiOk_iff {rd rs1 : Reg} {imm : BitVec 12} :
    ¬ Instr.addiOk rd rs1 imm = true ↔ rd = 0 ∧ rs1 = 0 ∧ imm = 0 := by
  simp [Instr.addiOk, and_assoc]

theorem not_addOk_iff {rd rs1 rs2 : Reg} :
    ¬ Instr.addOk rd rs1 rs2 = true ↔ rd = 0 ∧ rs1 = 0 ∧ (rs2 = 2 ∨ rs2 = 3 ∨ rs2 = 4 ∨ rs2 = 5) := by
  simp only [Instr.addOk, Bool.not_eq_true', Bool.not_eq_false, Bool.and_eq_true, Bool.or_eq_true, beq_iff_eq,
    and_assoc, or_assoc]

theorem not_fenceOk_iff {fm pred succ : BitVec 4} {rs1 rd : Reg} :
    ¬ Instr.fenceOk fm pred succ rs1 rd = true ↔
      rd = 0 ∧ rs1 = 0 ∧ (fm = 8 ∧ pred = 3 ∧ succ = 3 ∨ fm = 0 ∧ pred = 1 ∧ succ = 0) := by
  simp only [Instr.fenceOk, Bool.not_eq_true', Bool.not_eq_false, Bool.and_eq_true, Bool.or_eq_true, beq_iff_eq,
    and_assoc]

/-! ### What is decoded encodes to the fields it came from

Each branch of the decoder answers an instruction of one format, with the opcode and functs the branch has just read and the
operands of `r` itself; so its fields are those of `r`. -/

/-- `i` is a well-formed instruction with these fields. It is what the decoder answers: `decodeRaw_eq_some_iff`. -/
def IsReading (r : Raw) (i : Instr) : Prop := i.wf = true ∧ encodeRaw i = r

section
variable {r : Raw} {i : Instr}

theorem isReading_of_decodeBranch (op : r.op = 0b1100011#7) (h : decodeBranch r = some i) : IsReading r i := by
  unfold decodeBranch at h
  split at h <;> cases h
  all_goals exact ⟨rfl, rawB_immB op ‹_›⟩

theorem isReading_of_decodeLoad (op : r.op = 0b0000011#7) (h : decodeLoad r = some i) : IsReading r i := by
  unfold decodeLoad at h
  split at h <;> cases h
  all_goals exact ⟨rfl, rawI_eq op ‹_› rfl rfl rfl⟩

theorem isReading_of_decodeStore (op : r.op = 0b0100011#7) (h : decodeStore r = some i) : IsReading r i := by
  unfold decodeStore at h
  split at h <;> cases h
  all_goals exact ⟨rfl, rawS_immS op ‹_›⟩

theorem isReading_of_decodeOpImm (op : r.op = 0b0010011#7) (h : decodeOpImm r = some i) : IsReading r i := by
  unfold decodeOpImm at h
  split at h
  case h_1 f3 =>
    split at h <;> cases h
    · exact ⟨‹_›, rawI_eq op f3 rfl rfl rfl⟩
    · next nop =>
      obtain ⟨rd, rs1, imm⟩ := not_addiOk_iff.1 nop
      exact ⟨rfl, rawI_eq op f3 rd rs1 imm⟩
  case h_7 f3 =>
    split at h <;> cases h
    exact ⟨rfl, rawShift_shamt op f3 ‹_›⟩
  case h_8 f3 =>
    split at h
    · cases h
      exact ⟨rfl, rawShift_shamt op f3 ‹_›⟩
    · split at h <;> cases h
      exact ⟨rfl, rawShift_shamt op f3 ‹_›⟩
  all_goals cases h
  all_goals exact ⟨rfl, rawI_eq op ‹_› rfl rfl rfl⟩

theorem isReading_of_decodeOpImm32 (op : r.op = 0b0011011#7) (h : decodeOpImm32 r = some i) : IsReading r i := by
  unfold decodeOpImm32 at h
  split at h
  · cases h
    exact ⟨rfl, rawI_eq op ‹_› rfl rfl rfl⟩
  · split at h <;> cases h
    exact ⟨rfl, rawR_eq op ‹_› ‹_› rfl rfl rfl⟩
  · split at h
    · cases h
      exact ⟨rfl, rawR_eq op ‹_› ‹_› rfl rfl rfl⟩
    · split at h <;> cases h
      exact ⟨rfl, rawR_eq op ‹_› ‹_› rfl rfl rfl⟩
  · cases h

theorem isReading_of_decodeAdd (op : r.op = 0b0110011#7) (f7 : r.f7 = 0b0000000#7) (f3 : r.f3 = 0b000#3)
    (h : decodeAdd r = some i) : IsReading r i := by
  unfold decodeAdd at h
  split at h
  · cases h
    exact ⟨‹_›, rawR_eq op f3 f7 rfl rfl rfl⟩
  · next hint =>
    obtain ⟨rd, rs1, rs2 | rs2 | rs2 | rs2⟩ := not_addOk_iff.1 hint
    all_goals
      rw [rs2] at h
      cases h
      exact ⟨rfl, rawR_eq op f3 f7 rd rs1 rs2⟩

theorem isReading_of_decodeOp (op : r.op = 0b0110011#7) (h : decodeOp r = some i) : IsReading r i := by
  unfold decodeOp at h
  split at h
  case h_1 f7 f3 => exact isReading_of_decodeAdd op f7 f3 h
  all_goals cases h
  all_goals exact ⟨rfl, rawR_eq op ‹_› ‹_› rfl rfl rfl⟩

theorem isReading_of_decodeOp32 (op : r.op = 0b0111011#7) (h : decodeOp32 r = some i) : IsReading r i := by
  unfold decodeOp32 at h
  split at h <;> cases h
  all_goals exact ⟨rfl, rawR_eq op ‹_› ‹_› rfl rfl rfl⟩

theorem isReading_of_decodeFence (op : r.op = 0b0001111#7) (f3 : r.f3 = 0b000#3) (h : decodeFence r = some i) :
    IsReading r i := by
  have sets := fence_sets_append r.immI
  unfold decodeFence at h
  dsimp only at h
  split at h
  · cases h
    exact ⟨‹_›, rawI_eq op f3 rfl rfl sets.symm⟩
  · next narrow =>
    obtain ⟨rd, rs1, ⟨fm, pred, succ⟩ | ⟨fm, pred, succ⟩⟩ := not_fenceOk_iff.1 narrow
    all_goals
      rw [fm] at h
      cases h
      rw [fm, pred, succ] at sets
      exact ⟨rfl, rawI_eq op f3 rd rs1 sets.symm⟩

theorem isReading_of_decodeMiscMem (op : r.op = 0b0001111#7) (h : decodeMiscMem r = some i) : IsReading r i := by
  unfold decodeMiscMem at h
  split at h
  · exact isReading_of_decodeFence op ‹_› h
  · cases h
    exact ⟨rfl, rawI_eq op ‹_› rfl rfl rfl⟩
  · cases h

theorem isReading_of_decodeAmoW (op : r.op = 0b0101111#7) (f3 : r.f3 = 0b010#3)
    (h : decodeAmoW r = some i) : IsReading r i := by
  unfold decodeAmoW at h
  split at h
  · split at h <;> cases h
    exact ⟨rfl, rawAmo_eq op f3 ‹_› ‹_›⟩
  all_goals cases h
  all_goals exact ⟨rfl, rawAmo_eq op f3 ‹_› rfl⟩

theorem isReading_of_decodeAmoD (op : r.op = 0b0101111#7) (f3 : r.f3 = 0b011#3)
    (h : decodeAmoD r = some i) : IsReading r i := by
  unfold decodeAmoD at h
  split at h
  · split at h <;> cases h
    exact ⟨rfl, rawAmo_eq op f3 ‹_› ‹_›⟩
  all_goals cases h
  all_goals exact ⟨rfl, rawAmo_eq op f3 ‹_› rfl⟩

theorem isReading_of_decodeAmo (op : r.op = 0b0101111#7) (h : decodeAmo r = some i) : IsReading r i := by
  unfold decodeAmo at h
  split at h
  · exact isReading_of_decodeAmoW op ‹_› h
  · exact isReading_of_decodeAmoD op ‹_› h
  · cases h

theorem isReading_of_decodePrivPlain (op : r.op = 0b1110011#7) (f3 : r.f3 = 0b000#3) (rd : r.rd = 0#5) (rs1 : r.rs1 = 0#5)
    (h : decodePrivPlain r = some i) : IsReading r i := by
  unfold decodePrivPlain at h
  split at h <;> cases h
  all_goals exact ⟨rfl, rawI_eq op f3 rd rs1 ‹_›⟩

theorem isReading_of_decodePriv (op : r.op = 0b1110011#7) (f3 : r.f3 = 0b000#3) (h : decodePriv r = some i) :
    IsReading r i := by
  unfold decodePriv at h
  split at h
  · next rd =>
    split at h
    case h_7 =>
      split at h
      · exact isReading_of_decodePrivPlain op f3 rd ‹_› h
      · cases h
    all_goals cases h
    all_goals exact ⟨rfl, rawR_eq op f3 ‹_› rd rfl rfl⟩
  · cases h

theorem isReading_of_decodeHyp (op : r.op = 0b1110011#7) (f3 : r.f3 = 0b100#3) (h : decodeHyp r = some i) :
    IsReading r i := by
  unfold decodeHyp at h
  split at h
  iterate 9
    cases h
    exact ⟨rfl, rawR_eq op f3 ‹_› rfl rfl ‹_›⟩
  iterate 4
    split at h <;> cases h
    exact ⟨rfl, rawR_eq op f3 ‹_› ‹_› rfl rfl⟩
  cases h

theorem isReading_of_decodeSystem (op : r.op = 0b1110011#7) (h : decodeSystem r = some i) : IsReading r i := by
  unfold decodeSystem at h
  split at h
  case h_1 f3 => exact isReading_of_decodePriv op f3 h
  case h_2 f3 => exact isReading_of_decodeHyp op f3 h
  all_goals cases h
  all_goals exact ⟨rfl, rawI_eq op ‹_› rfl rfl rfl⟩

theorem isReading_of_decodeRaw (h : decodeRaw r = some i) : IsReading r i := by
  unfold decodeRaw at h
  split at h
  case h_1 op | h_2 op =>
    cases h
    exact ⟨rfl, rawU_immU op⟩
  case h_3 op =>
    cases h
    exact ⟨rfl, rawJ_immJ op⟩
  case h_4 op =>
    split at h <;> cases h
    exact ⟨rfl, rawI_eq op ‹_› rfl rfl rfl⟩
  case h_5 op => exact isReading_of_decodeBranch op h
  case h_6 op => exact isReading_of_decodeLoad op h
  case h_7 op => exact isReading_of_decodeStore op h
  case h_8 op => exact isReading_of_decodeOpImm op h
  case h_9 op => exact isReading_of_decodeOp op h
  case h_10 op => exact isReading_of_decodeMiscMem op h
  case h_11 op => exact isReading_of_decodeOpImm32 op h
  case h_12 op => exact isReading_of_decodeOp32 op h
  case h_13 op => exact isReading_of_decodeAmo op h
  case h_14 op => exact isReading_of_decodeSystem op h
  case h_15 => cases h

end

/-! ### A well-formed instruction is found by its row -/

theorem decodeRaw_addi {rd rs1 : Reg} {imm : BitVec 12} (ok : Instr.addiOk rd rs1 imm = true) :
    decodeRaw (encodeRaw (.addi rd rs1 imm)) = some (.addi rd rs1 imm) := by
  have row : decodeRaw (encodeRaw (.addi rd rs1 imm)) =
      if Instr.addiOk rd rs1 imm then some (Instr.addi rd rs1 imm) else some Instr.nop :=
    congrArg (fun v => if Instr.addiOk rd rs1 v then some (Instr.addi rd rs1 v) else some Instr.nop) (immI_rawI ..)
  rw [row, if_pos ok]

theorem decodeRaw_fence {fm pred succ : BitVec 4} {rs1 rd : Reg} (ok : Instr.fenceOk fm pred succ rs1 rd = true) :
    decodeRaw (encodeRaw (.fence fm pred succ rs1 rd)) = some (.fence fm pred succ rs1 rd) := by
  change decodeFence _ = _
  unfold decodeFence
  simp (disch := decide) only [encodeRaw, immI_rawI, extractLsb'_append_eq_of_le, extractLsb'_append_eq_of_add_le,
    Nat.reduceSub, extractLsb'_eq_self]
  exact if_pos ok

/-- By the formats of the rows: an immediate is put together again, a funct field is found under the operand bits beside it,
and in the other rows the operands are fields as they stand. -/
theorem decodeRaw_encodeRaw {i : Instr} (wf : i.wf = true) : decodeRaw (encodeRaw i) = some i := by
  cases i with
  | addi => exact decodeRaw_addi wf
  | add => exact if_pos wf
  | fence => exact decodeRaw_fence wf
  | lui | auipc => exact congrArg some (congrArg _ (immU_rawU ..))
  | jal => exact congrArg some (congrArg _ (immJ_rawJ ..))
  | beq | bne | blt | bge | bltu | bgeu => exact congrArg some (congrArg _ (immB_rawB ..))
  | jalr | lb | lh | lw | lbu | lhu | ld | lwu | slti | sltiu | xori | ori | andi | addiw | csrrw | csrrs | csrrc | csrrwi
  | csrrsi | csrrci => exact congrArg some (congrArg _ (immI_rawI ..))
  | fenceI _ rs1 rd => exact congrArg (some <| Instr.fenceI · rs1 rd) (immI_rawI ..)
  | sb | sh | sw | sd => exact congrArg some (congrArg _ (immS_rawS ..))
  | slli | srli | srai => simp [encodeRaw, decodeRaw, decodeOpImm]
  | lrW | scW | amoswapW | amoaddW | amoxorW | amoandW | amoorW | amominW | amomaxW | amominuW | amomaxuW =>
    simp [encodeRaw, decodeRaw, decodeAmo, decodeAmoW]
  | lrD | scD | amoswapD | amoaddD | amoxorD | amoandD | amoorD | amominD | amomaxD | amominuD | amomaxuD =>
    simp [encodeRaw, decodeRaw, decodeAmo, decodeAmoD]
  | _ => rfl

theorem decodeRaw_eq_some_iff {r : Raw} {i : Instr} : decodeRaw r = some i ↔ IsReading r i :=
  ⟨isReading_of_decodeRaw, fun ⟨wf, fields⟩ => fields ▸ decodeRaw_encodeRaw wf⟩

/-! ### The illegal words (R503) -/

theorem decode_eq_none {w : Inst} (h : w.extractLsb' 0 16 = 0 ∨ w = 0xFFFFFFFF) : decode w = none := by
  obtain low | rfl := h
  · have op : (unpack w).op = 0 := by rw [op_unpack, low]; rfl
    rw [decode, decodeRaw, op]
    rfl
  · rfl

/-! ### The obligations -/

/-- Settles O57: the fields of the instruction's word are its own, and the decoder answers the instruction with those. -/
theorem decodeInvertsEncode : Obligations.DecodeInvertsEncode := by
  unfold Obligations.DecodeInvertsEncode
  intro i wf
  rw [decode, encode, unpack_pack, decodeRaw_eq_some_iff]
  exact ⟨wf, rfl⟩

/-- Settles O58: the instruction has the fields of the word, and these are the word. -/
theorem encodeInvertsDecode : Obligations.EncodeInvertsDecode := by
  unfold Obligations.EncodeInvertsDecode
  intro w i decoded
  obtain ⟨wf, fields⟩ := decodeRaw_eq_some_iff.1 decoded
  exact ⟨wf, by rw [encode, fields, pack_unpack]⟩

/-- Settles O59: five words by computation, and two that R503 calls illegal. -/
theorem wordsDecode : Obligations.WordsDecode :=
  ⟨by decide, by decide, by decide, by decide, by decide, decode_eq_none (.inl rfl), decode_eq_none (.inr rfl)⟩

end Sys2Proof

namespace Sys2Proof.Machine

/-- With no event, nothing pending and no stall, a step is one instruction. -/
theorem step_eq_after_runInstr {s : State} (inputs : s.inputs = []) (noTrap : boundaryTrap s = none)
    (awake : s.stalled = false) : step s = after s (runInstr s) := by
  have consumed : consume s = s := by rw [consume, inputs]
  have woken : wake s = (true, s) := by rw [wake, awake]; rfl
  simp [step, consumed, noTrap, woken]

/-- Settles O60: such a word's opcode field is no row's, and a word no row matches is an illegal instruction. -/
theorem illegalWordsTrap : Obligations.IllegalWordsTrap := by
  unfold Obligations.IllegalWordsTrap
  intro w illegal
  have refused := decode_eq_none illegal
  refine ⟨refused, fun s s1 inputs noTrap awake fetched => ?_⟩
  have ran : runInstr s = .next (raise s1 w (illegalExc w)) := by simp [runInstr, fetched, refused]
  rw [step_eq_after_runInstr inputs noTrap awake, ran]
  rfl

end Sys2Proof.Machine
end

section
/-! PROOF. Words as integers modulo 2^XLEN: what the operands stand for, and what the operations of the integer instructions
make of it (00_scope R16, R17; 40_rv32i R554 to R572). -/

namespace Sys2Proof.Machine

/-! ### Integers modulo 2^XLEN -/

/-- The low XLEN bits of the word are those of the integer. -/
def StandsFor (c : Config) (w : Word) (z : Int) : Prop := (w.toNat : Int) ≡ z [ZMOD 2 ^ c.xlen]

theorem toNat_ofXlen (c : Config) (z : Int) : (ofXlen c z).toNat = (z % 2 ^ c.xlen).toNat := by
  rw [ofXlen, BitVec.toNat_ofNat]
  unfold Config.xlen
  split <;> omega

theorem wrap_of_standsFor {c : Config} {w : Word} {z : Int} (h : StandsFor c w z) : wrap c w = ofXlen c z := by
  apply BitVec.eq_of_toNat_eq
  rw [toNat_wrap, toNat_ofXlen, ← h.eq, Int.toNat_emod (by simp) (by simp)]
  rfl

/-- Equality modulo 2^64 is more than is asked. -/
theorem standsFor_of_modEq (c : Config) {w : Word} {z : Int} (h : (w.toNat : Int) ≡ z [ZMOD 2 ^ 64]) : StandsFor c w z :=
  h.of_dvd (pow_dvd_pow 2 (xlen_le_64 c))

theorem standsFor_toNat (c : Config) (w : Word) : StandsFor c w w.toNat := Int.ModEq.refl _

theorem standsFor_of_toNat {c : Config} {w : Word} {n : Nat} (h : w.toNat = n) : StandsFor c w n := h ▸ standsFor_toNat c w

theorem standsFor_toInt (c : Config) (w : Word) : StandsFor c w w.toInt :=
  standsFor_of_modEq c (by rw [BitVec.toInt_eq_toNat_bmod]; exact Int.bmod_emod.symm)

theorem standsFor_ofXlen (c : Config) (z : Int) : StandsFor c (ofXlen c z) z := by
  rw [StandsFor, toNat_ofXlen, Int.toNat_of_nonneg (Int.emod_nonneg _ (by simp))]
  exact Int.mod_modEq ..

theorem wrap_ofXlen (c : Config) (z : Int) : wrap c (ofXlen c z) = ofXlen c z := wrap_of_standsFor (standsFor_ofXlen c z)

section
variable {c : Config} {a b : Word} {x y : Int}

theorem StandsFor.wrap (h : StandsFor c a x) : StandsFor c (wrap c a) x := by
  rw [wrap_of_standsFor h]
  exact standsFor_ofXlen c x

theorem StandsFor.add (ha : StandsFor c a x) (hb : StandsFor c b y) : StandsFor c (a + b) (x + y) := by
  have sum : StandsFor c (a + b) (a.toNat + b.toNat) :=
    standsFor_of_modEq c (by rw [BitVec.toNat_add, Int.natCast_emod, Nat.cast_add]; exact Int.mod_modEq ..)
  exact sum.trans (Int.ModEq.add ha hb)

theorem StandsFor.sub (ha : StandsFor c a x) (hb : StandsFor c b y) : StandsFor c (a - b) (x - y) := by
  have difference : StandsFor c (a - b) (a.toNat - b.toNat) := by
    refine standsFor_of_modEq c ?_
    rw [BitVec.toNat_sub, Int.ModEq]
    omega
  exact difference.trans (Int.ModEq.sub ha hb)

theorem StandsFor.shiftLeft (ha : StandsFor c a x) (n : Nat) : StandsFor c (a <<< n) (x * 2 ^ n) := by
  have product : StandsFor c (a <<< n) (a.toNat * 2 ^ n) := by
    refine standsFor_of_modEq c ?_
    rw [BitVec.toNat_shiftLeft, Nat.shiftLeft_eq, Int.natCast_emod, Nat.cast_mul, Nat.cast_pow]
    exact Int.mod_modEq ..
  exact product.trans (Int.ModEq.mul_right _ ha)

end

/-! ### Operands -/

theorem standsFor_rX (s : State) (r : Reg) : StandsFor s.cfg (rX s r) (uReg s r) := standsFor_toNat ..

theorem standsFor_signExtend (c : Config) {n : Nat} (h : n ≤ 64) (v : BitVec n) : StandsFor c (v.signExtend 64) v.toInt :=
  BitVec.toInt_signExtend_of_le (x := v) h ▸ standsFor_toInt c _

theorem standsFor_immXlen (c : Config) (imm : BitVec 12) : StandsFor c (immXlen c imm) imm.toInt :=
  (standsFor_signExtend c (by decide) imm).wrap

theorem standsFor_immUpper (c : Config) (imm : BitVec 20) : StandsFor c (immUpper c imm) (imm.toInt * 2 ^ 12) := by
  have shifted : (imm ++ (0 : BitVec 12)).toInt = imm.toInt * 2 ^ 12 := BitVec.toInt_append_zero.trans (mul_comm ..)
  exact shifted ▸ (standsFor_signExtend c (by decide) (imm ++ (0 : BitVec 12))).wrap

theorem standsFor_branchOffset (c : Config) (imm : BitVec 12) : StandsFor c (branchOffset imm) (2 * imm.toInt) :=
  BitVec.toInt_append_zero (m := 1) (x := imm) ▸ standsFor_signExtend c (by decide) (imm ++ (0 : BitVec 1))

theorem standsFor_jalOffset (c : Config) (imm : BitVec 20) : StandsFor c (jalOffset imm) (2 * imm.toInt) :=
  BitVec.toInt_append_zero (m := 1) (x := imm) ▸ standsFor_signExtend c (by decide) (imm ++ (0 : BitVec 1))

/-- The effective address (40_rv32i R590). -/
theorem effAddr_eq_ofXlen (s : State) (rs1 : Reg) (imm : BitVec 12) :
    effAddr s rs1 imm = ofXlen s.cfg (uReg s rs1 + imm.toInt) :=
  wrap_of_standsFor ((standsFor_rX s rs1).add (standsFor_signExtend s.cfg (by decide) imm))

theorem wrap_immXlen (c : Config) (imm : BitVec 12) : wrap c (immXlen c imm) = immXlen c imm := wrap_wrap ..

/-- The immediate read as an unsigned number: sign-extended first (R556). -/
theorem toNat_immXlen (c : Config) (imm : BitVec 12) : (immXlen c imm).toNat = (imm.toInt % 2 ^ c.xlen).toNat := by
  rw [← wrap_immXlen, wrap_of_standsFor (standsFor_immXlen c imm), toNat_ofXlen]

/-! ### Signed readings -/

theorem toInt_signed (c : Config) (v : Word) : (signed c v).toInt = Int.bmod v.toNat (2 ^ c.xlen) := by
  unfold signed Config.xlen
  split
  · exact BitVec.toInt_eq_toNat_bmod v
  · rw [sext32, BitVec.toInt_signExtend_of_le (by decide), low32, BitVec.toInt_setWidth]

theorem toInt_signed_rX (s : State) (r : Reg) : (signed s.cfg (rX s r)).toInt = sReg s r := toInt_signed ..

theorem toInt_signed_immXlen (c : Config) (imm : BitVec 12) : (signed c (immXlen c imm)).toInt = imm.toInt := by
  have low := imm.le_toInt
  have high := imm.toInt_lt
  have same := Int.emod_bmod imm.toInt (2 ^ c.xlen)
  rw [toInt_signed, toNat_immXlen, Int.toNat_of_nonneg (Int.emod_nonneg _ (by simp))]
  push_cast at same
  rw [same]
  unfold Config.xlen
  split <;> exact Int.bmod_eq_of_le (by omega) (by omega)

/-! ### Comparisons -/

theorem ltS_iff (c : Config) (a b : Word) : ltS c a b = true ↔ (signed c a).toInt < (signed c b).toInt :=
  BitVec.slt_iff_toInt_lt

theorem ltU_iff (c : Config) (a b : Word) : ltU c a b = true ↔ (wrap c a).toNat < (wrap c b).toNat :=
  BitVec.ult_iff_toNat_lt

theorem ltS_rX_iff (s : State) (r q : Reg) : ltS s.cfg (rX s r) (rX s q) = true ↔ sReg s r < sReg s q := by
  rw [ltS_iff, toInt_signed_rX, toInt_signed_rX]

theorem ltU_rX_iff (s : State) (r q : Reg) : ltU s.cfg (rX s r) (rX s q) = true ↔ uReg s r < uReg s q := by
  rw [ltU_iff, wrap_rX, wrap_rX, uReg, uReg]

/-- A comparison's result is 1 or 0 at any width. -/
theorem wrap_boolWord (c : Config) {b : Bool} {p : Prop} [Decidable p] (h : b = true ↔ p) :
    wrap c (boolWord b) = flag p := by
  have narrow : wrap c (boolWord b) = boolWord b := by
    unfold wrap
    cases b <;> split <;> rfl
  rw [narrow, boolWord, flag]
  exact if_congr h rfl rfl

/-! ### Shifts -/

theorem standsFor_opSll (s : State) (r : Reg) (n : Nat) :
    StandsFor s.cfg (opSll s.cfg (rX s r) n) (uReg s r * 2 ^ n : Nat) := by
  rw [Nat.cast_mul, Nat.cast_pow]
  exact ((standsFor_rX s r).shiftLeft n).wrap

theorem standsFor_opSrl (s : State) (r : Reg) (n : Nat) :
    StandsFor s.cfg (opSrl s.cfg (rX s r) n) (uReg s r / 2 ^ n : Nat) := by
  refine standsFor_of_toNat ?_
  rw [opSrl, wrap_rX, BitVec.toNat_ushiftRight, Nat.shiftRight_eq_div_pow, uReg]

/-- An arithmetic right shift divides rounding down (R562, R570). -/
theorem standsFor_opSra (s : State) (r : Reg) (n : Nat) :
    StandsFor s.cfg (opSra s.cfg (rX s r) n) (sReg s r / 2 ^ n) := by
  have quotient : ((signed s.cfg (rX s r)).sshiftRight n).toInt = sReg s r / 2 ^ n := by
    rw [BitVec.toInt_sshiftRight, Int.shiftRight_eq_div_pow, toInt_signed_rX, Nat.cast_pow]
    rfl
  exact (quotient ▸ standsFor_toInt s.cfg _).wrap

end Sys2Proof.Machine
end

section
/-! PROOF. The integer instructions: each writes the value of its operation to rd and retires. -/

namespace Sys2Proof.Machine

/-- An available instruction that only writes the value `f` back. -/
theorem yields_of_writeBack {i : Instr} {s : State} {rd : Reg} {v : Word} (f : State → Word)
    (body : exec i s = run i s fun s => writeBack s rd (f s)) (value : wrap s.cfg (f s) = v)
    (available : i.available s.cfg = true) : yields i s rd v := by
  refine ⟨retire (wX s rd (f s)), by rw [body, run_available available]; rfl, ?_, ?_, fun a => ?_, ?_⟩
  · exact value ▸ wroteReg_writeBack rfl rfl rd (f s)
  · exact nextPc_eq_ofXlen s ▸ wentTo_retire (wX_cfg ..) (wX_pc ..) (wX_m ..)
  · rw [retire, retireTo_mem, wX_mem]
  · exact sameRest_retire (sameRest_wX (u := s) rfl rd _)

/-- The same with the value as an integer. -/
theorem yields_integer {i : Instr} {s : State} {rd : Reg} {z : Int} (f : State → Word)
    (body : exec i s = run i s fun s => writeBack s rd (f s)) (value : StandsFor s.cfg (f s) z) :
    i.available s.cfg = true → yields i s rd (ofXlen s.cfg z) :=
  yields_of_writeBack f body (wrap_of_standsFor value)

/-- Settles O1: each value is the instruction's operation on what its operands stand for. -/
theorem immediateInstructions : Obligations.ImmediateInstructions := by
  unfold Obligations.ImmediateInstructions
  intro s rd rs1 imm top shamt
  refine ⟨yields_integer (fun s => rX s rs1 + immXlen s.cfg imm) rfl ?addi,
    yields_of_writeBack (fun s => boolWord (ltS s.cfg (rX s rs1) (immXlen s.cfg imm))) rfl ?slti,
    yields_of_writeBack (fun s => boolWord (ltU s.cfg (rX s rs1) (immXlen s.cfg imm))) rfl ?sltiu,
    yields_integer (fun s => immUpper s.cfg top) rfl (standsFor_immUpper s.cfg top),
    yields_integer (fun s => s.pc + immUpper s.cfg top) rfl ?auipc,
    yields_integer (fun s => rX s rs1 ^^^ immXlen s.cfg imm) rfl (standsFor_of_toNat ?xori),
    yields_integer (fun s => rX s rs1 ||| immXlen s.cfg imm) rfl (standsFor_of_toNat ?ori),
    yields_integer (fun s => rX s rs1 &&& immXlen s.cfg imm) rfl (standsFor_of_toNat ?andi),
    yields_integer (fun s => opSll s.cfg (rX s rs1) shamt.toNat) rfl (standsFor_opSll ..),
    yields_integer (fun s => opSrl s.cfg (rX s rs1) shamt.toNat) rfl (standsFor_opSrl ..),
    yields_integer (fun s => opSra s.cfg (rX s rs1) shamt.toNat) rfl (standsFor_opSra ..)⟩
  case addi => exact (standsFor_rX s rs1).add (standsFor_immXlen s.cfg imm)
  case slti => exact wrap_boolWord _ (by rw [ltS_iff, toInt_signed_rX, toInt_signed_immXlen])
  case sltiu => exact wrap_boolWord _ (by rw [ltU_iff, wrap_rX, wrap_immXlen, toNat_immXlen, uReg])
  case auipc => exact (standsFor_toNat s.cfg s.pc).add (standsFor_immUpper s.cfg top)
  case xori => rw [BitVec.toNat_xor, toNat_immXlen, uReg]
  case ori => rw [BitVec.toNat_or, toNat_immXlen, uReg]
  case andi => rw [BitVec.toNat_and, toNat_immXlen, uReg]

/-- Settles O2: the same of two registers, a shift by rs2 modulo XLEN. -/
theorem registerInstructions : Obligations.RegisterInstructions := by
  unfold Obligations.RegisterInstructions
  intro s rd rs1 rs2
  exact ⟨yields_integer (fun s => rX s rs1 + rX s rs2) rfl ((standsFor_rX s rs1).add (standsFor_rX s rs2)),
    yields_integer (fun s => rX s rs1 - rX s rs2) rfl ((standsFor_rX s rs1).sub (standsFor_rX s rs2)),
    yields_of_writeBack (fun s => boolWord (ltS s.cfg (rX s rs1) (rX s rs2))) rfl
      (wrap_boolWord _ (ltS_rX_iff s rs1 rs2)),
    yields_of_writeBack (fun s => boolWord (ltU s.cfg (rX s rs1) (rX s rs2))) rfl
      (wrap_boolWord _ (ltU_rX_iff s rs1 rs2)),
    yields_integer (fun s => rX s rs1 ^^^ rX s rs2) rfl (standsFor_of_toNat (BitVec.toNat_xor ..)),
    yields_integer (fun s => rX s rs1 ||| rX s rs2) rfl (standsFor_of_toNat (BitVec.toNat_or ..)),
    yields_integer (fun s => rX s rs1 &&& rX s rs2) rfl (standsFor_of_toNat (BitVec.toNat_and ..)),
    yields_integer (fun s => opSll s.cfg (rX s rs1) (shiftAmount s.cfg (rX s rs2))) rfl (standsFor_opSll ..),
    yields_integer (fun s => opSrl s.cfg (rX s rs1) (shiftAmount s.cfg (rX s rs2))) rfl (standsFor_opSrl ..),
    yields_integer (fun s => opSra s.cfg (rX s rs1) (shiftAmount s.cfg (rX s rs2))) rfl (standsFor_opSra ..)⟩

end Sys2Proof.Machine
end

section
/-! PROOF. Jumps and branches: control goes to the target or to the next instruction, and a misaligned target they would go
to is the only exception. -/

namespace Sys2Proof.Machine

/-! ### Control going to an address -/

/-- Retirement that goes to `t`, as one update. -/
theorem retireTo_eq (s : State) (t : Word) :
    retireTo s t = { s with
      pc := wrap s.cfg t
      m := { s.m with minstret := if inhibited s 2 then s.m.minstret else s.m.minstret + 1 } } := by
  have count : inhibited (setPc s t) 2 = inhibited s 2 := rfl
  rw [retireTo, retireCount, count]
  split <;> rfl

theorem sameRest_retireTo {s u : State} (h : sameRest s u) (t : Word) : sameRest s (retireTo u t) := by
  unfold sameRest at *
  rw [retireTo_eq, h]

theorem wentTo_retireTo {s u : State} (cfg : u.cfg = s.cfg) (m : u.m = s.m) {t : Word} (width : wrap s.cfg t = t) :
    wentTo s (retireTo u t) t := by
  have count : inhibited u 2 = inhibited s 2 := by rw [inhibited, cfg, m, inhibited]
  rw [retireTo_eq, wentTo, cfg, m, count]
  exact ⟨width, rfl⟩

theorem onlyReg_retireTo (s : State) (rd : Reg) {v t : Word} (link : wrap s.cfg v = v) (width : wrap s.cfg t = t) :
    onlyReg s (retireTo (wX s rd v) t) rd v t := by
  refine ⟨fun r => ?_, wentTo_retireTo (wX_cfg ..) (wX_m ..) width, fun a => ?_, ?_⟩
  · rw [rX_retireTo, rX_wX, link]
  · rw [retireTo_mem, wX_mem]
  · exact sameRest_retireTo (sameRest_wX (u := s) rfl rd v) t

section
variable {i : Instr} {s : State} {target : Word} (available : i.available s.cfg = true)
include available

/-- A jump to `f`: the link and the target, or the exception of a misaligned target (R576, R577, R580). -/
theorem exec_jump {rd : Reg} (f : State → Word) (body : exec i s = run i s fun s => jump s rd (f s))
    (at_target : f s = target) (width : wrap s.cfg target = target) :
    (target.toNat % 4 = 0 → ∃ t, exec i s = .next t ∧ onlyReg s t rd (ofXlen s.cfg (s.pc.toNat + 4)) target) ∧
      (target.toNat % 4 ≠ 0 → traps i s (instrExc 0 target s.virt)) := by
  subst at_target
  rw [← nextPc_eq_ofXlen, Ne, aligned_iff_low_bits]
  obtain ⟨aligned, ran⟩ | ⟨misaligned, ran⟩ := jump_cases s rd (f s)
  · refine ⟨fun _ => ⟨_, by rw [body, run_available available, ran]; rfl, ?_⟩, fun k => absurd aligned k⟩
    exact onlyReg_retireTo s rd (wrap_wrap ..) width
  · exact ⟨fun k => absurd k misaligned, fun _ => body.trans (run_trap available ran)⟩

/-- A branch on `cond`: not taken, taken, or the exception of a misaligned target that is taken (R578, R580). -/
theorem exec_branch {off : BitVec 12} {taken : Prop} (cond : State → Bool)
    (body : exec i s = run i s fun s => branch s (cond s) off) (condition : cond s = true ↔ taken)
    (at_target : wrap s.cfg (s.pc + branchOffset off) = target) :
    (¬ taken → onlyRetires i s) ∧
      (taken → target.toNat % 4 = 0 →
        ∃ t, exec i s = .next t ∧ sameRegs s t ∧ wentTo s t target ∧ sameBytes s t ∧ sameRest s t) ∧
      (taken → target.toNat % 4 ≠ 0 → traps i s (instrExc 0 target s.virt)) := by
  subst at_target
  rw [← condition, Ne, aligned_iff_low_bits]
  have concluded {r : Res Unit} (h : branch s (cond s) off = r) : exec i s = conclude (encode i) r := by
    rw [body, run_available available, h]
  obtain ⟨fails, ran⟩ | ⟨holds, aligned, ran⟩ | ⟨holds, misaligned, ran⟩ := branch_cases s (cond s) off
  · have not_taken : ¬ cond s = true := Bool.eq_false_iff.1 fails
    obtain ⟨regs, bytes, went⟩ := retire_frame (s := s) (u := s) rfl rfl rfl rfl rfl
    exact ⟨fun _ => ⟨_, concluded ran, regs, went, bytes, sameRest_retire rfl⟩, fun k => absurd k not_taken,
      fun k => absurd k not_taken⟩
  · exact ⟨fun k => absurd holds k,
      fun _ _ => ⟨_, concluded ran, rX_retireTo s _, wentTo_retireTo rfl rfl (wrap_wrap ..),
        fun a => by rw [retireTo_mem], sameRest_retireTo (u := s) rfl _⟩,
      fun _ k => absurd aligned k⟩
  · exact ⟨fun k => absurd holds k, fun _ k => absurd k misaligned, fun _ _ => concluded ran⟩

end

/-! ### The obligation -/

/-- JALR clears bit 0 of its target (R577). -/
theorem clear_bit_zero_ofXlen (c : Config) (z : Int) : ofXlen c z &&& ~~~1 = ofXlen c (z / 2 * 2) := by
  apply BitVec.eq_of_toNat_eq
  have cleared := toNat_and_not_fieldMask (ofXlen c z) 1
  rw [toNat_ofXlen] at cleared
  refine cleared.trans ?_
  rw [toNat_ofXlen]
  unfold Config.xlen
  split <;> omega

/-- Settles O7: JAL and JALR are jumps, the six others branches, to the integer the operands stand for. -/
theorem jumpsAndBranches : Obligations.JumpsAndBranches := by
  unfold Obligations.JumpsAndBranches
  refine ⟨fun s rd rs1 off imm => ?_, fun s rs1 rs2 off i taken form available => ?_⟩
  · refine ⟨fun available => exec_jump available (fun s => wrap s.cfg (s.pc + jalOffset off)) rfl ?jal (wrap_ofXlen ..),
      fun available => exec_jump available (fun s => effAddr s rs1 imm &&& ~~~1) rfl ?jalr (wrap_ofXlen ..)⟩
    case jal => exact wrap_of_standsFor ((standsFor_toNat s.cfg s.pc).add (standsFor_jalOffset s.cfg off))
    case jalr => rw [effAddr_eq_ofXlen, clear_bit_zero_ofXlen]
  · have target := wrap_of_standsFor ((standsFor_toNat s.cfg s.pc).add (standsFor_branchOffset s.cfg off))
    obtain ⟨rfl, test⟩ | ⟨rfl, test⟩ | ⟨rfl, test⟩ | ⟨rfl, test⟩ | ⟨rfl, test⟩ | ⟨rfl, test⟩ := form
    · exact exec_branch available (fun s => rX s rs1 == rX s rs2) rfl (by rw [test, beq_iff_eq]) target
    · exact exec_branch available (fun s => rX s rs1 != rX s rs2) rfl (by rw [test, bne_iff_ne]) target
    · exact exec_branch available (fun s => ltS s.cfg (rX s rs1) (rX s rs2)) rfl (by rw [test, ltS_rX_iff]) target
    · refine exec_branch available (fun s => !ltS s.cfg (rX s rs1) (rX s rs2)) rfl ?_ target
      rw [test, Bool.not_eq_true', ← Bool.not_eq_true, ltS_rX_iff, not_lt]
    · exact exec_branch available (fun s => ltU s.cfg (rX s rs1) (rX s rs2)) rfl (by rw [test, ltU_rX_iff]) target
    · refine exec_branch available (fun s => !ltU s.cfg (rX s rs1) (rX s rs2)) rfl ?_ target
      rw [test, Bool.not_eq_true', ← Bool.not_eq_true, ltU_rX_iff, not_lt]

end Sys2Proof.Machine
end

section
/-! PROOF. Loads and stores in M-mode: what `Reachable` asks is what the access checks, so it grants the address itself. -/

namespace Sys2Proof.Machine

/-- An aligned access of a power of two up to 8 bytes crosses no page (20_memory R346). -/
theorem parts_aligned (c : Config) {ea : Word} {n : Nat} (width : n = 1 ∨ n = 2 ∨ n = 4 ∨ n = 8)
    (aligned : ea.toNat % n = 0) : parts c ea n = [(ea, n)] := by
  have inside : ¬ 4096 - ea.toNat % 4096 < n := by
    obtain rfl | rfl | rfl | rfl := width <;> omega
  rw [parts, if_neg inside]

section
variable {s : State} {u : PmaUse} {ea n : Nat} (h : Reachable s u ea n)
include h

/-- Loads and stores of M-mode without MPRV are M-mode's (R342). -/
theorem effMode_plain_of_reachable : effMode s .plain = (.M, false) := by
  simp [effMode, dataMode, h.noMprv, h.machine, h.notVirtual]

theorem viaBig_of_reachable : viaBig s .plain = mstatusBit s MBE := by
  rw [viaBig, effMode_plain_of_reachable h, dataBig]

end

/-- Nothing is translated and both checks pass (R340). -/
theorem access_of_reachable {s : State} {u : PmaUse} {ea : Word} {n : Nat} (width : n = 1 ∨ n = 2 ∨ n = 4 ∨ n = 8)
    (h : Reachable s u ea.toNat n) : access s .plain u ea n = .ok [(ea.toNat, n)] s := by
  have unrefused : misalignedCause s.cfg u ea n = none := if_pos h.aligned
  have request := effMode_plain_of_reachable h
  have translated : translate s (dataReq s .plain u ea ea) = .ok (.plain ea.toNat) s := by
    simp [translate, dataReq, request]
  have checked : checkPhys s (dataReq s .plain u ea ea) u (useAcc u) .M (.plain ea.toNat) n n = .ok () s := by
    unfold checkPhys
    rw [pmpPass_synchronised s _ _ _ _ _ (by simp [dataReq, request, h.synchronised])]
    simp [Mapping.plain, h.attributes, h.protection]
  have mode : (dataReq s .plain u ea ea).priv = .M := by simp [dataReq, request]
  have type : (dataReq s .plain u ea ea).acc = useAcc u := rfl
  simp only [access, unrefused, parts_aligned s.cfg width h.aligned, resolve, translated, bind_ok, mode, type, checked]
  rfl

/-- Settles O8: the access grants the effective address, and the bytes there are loaded. -/
theorem loadsComplete : Obligations.LoadsComplete := by
  unfold Obligations.LoadsComplete
  intro s rd rs1 imm i n signed form available reachable
  have body : exec i s = run i s fun s => loadTo s .plain .load rd (effAddr s rs1 imm) n signed := by
    casesm* _ ∨ _, _ ∧ _ <;> subst_vars <;> rfl
  have width : n = 1 ∨ n = 2 ∨ n = 4 ∨ n = 8 := by omega
  have read := readParts_main (s := s) (pas := [((effAddr s rs1 imm).toNat, n)]) (by simpa using reachable.mainMemory)
  rw [List.flatMap_singleton] at read
  obtain ⟨t, ran, wrote, went, rest⟩ := load_granted body available (access_of_reachable width reachable) read
  have fits : (orderBytes (viaBig s .plain) (Memory.readBytes s.mem (effAddr s rs1 imm).toNat n)).length ≤ 8 := by
    rw [length_orderBytes, length_readBytes]
    omega
  rw [wrap_loaded width, toNat_ofBytes fits, ← bytesValue_eq, viaBig_of_reachable reachable] at wrote
  exact ⟨t, ran, wrote, nextPc_eq_ofXlen s ▸ went, rest⟩

/-- Settles O10: the access grants the effective address, and the bytes are stored there. -/
theorem storesComplete : Obligations.StoresComplete := by
  unfold Obligations.StoresComplete
  intro s rs1 rs2 imm i n form available wf reachable
  have body : exec i s = run i s fun s => storeFrom s .plain (effAddr s rs1 imm) n (rX s rs2) := by
    casesm* _ ∨ _, _ ∧ _ <;> subst_vars <;> rfl
  have width : n = 1 ∨ n = 2 ∨ n = 4 ∨ n = 8 := by omega
  rw [← nextPc_eq_ofXlen, ← viaBig_of_reachable reachable]
  exact store_one_part body available wf (access_of_reachable width reachable) reachable.mainMemory

end Sys2Proof.Machine
end

section
/-! PROOF. NOP, the fences and the hints: they retire, and FENCE.I leaves no stale word. -/

namespace Sys2Proof.Machine

/-- An available instruction whose body is to retire. -/
theorem onlyRetires_of_retire {i : Instr} {s : State} (body : exec i s = run i s fun s => .ok () (retire s))
    (available : i.available s.cfg = true) : onlyRetires i s := by
  obtain ⟨regs, bytes, went⟩ := retire_frame (s := s) (u := s) rfl rfl rfl rfl rfl
  exact ⟨_, body.trans (run_available available _), regs, went, bytes, sameRest_retire rfl⟩

/-- Settles O13: the word is NOP's, which every base has. -/
theorem nopChangesNothing : Obligations.NopChangesNothing :=
  ⟨by decide, fun _ => ⟨rfl, onlyRetires_of_retire rfl rfl⟩⟩

/-- With no stale word a fetch returns what memory holds (20_memory R385). -/
theorem fetchWord_of_fresh {s : State} (fresh : s.istale = []) (a : Nat) : (fetchWord s a).1 = Memory.inst s.mem a := by
  simp [fetchWord, fresh]

/-- Settles O14: FENCE.I forgets the stale words, the others do nothing but retire. -/
theorem fencesAndHintsRetire : Obligations.FencesAndHintsRetire := by
  unfold Obligations.FencesAndHintsRetire
  refine ⟨fun s fm pred succ rs1 rd i form available => ?_, fun s imm rs1 rd available => ?_⟩
  · have body : exec i s = run i s fun s => .ok () (retire s) := by
      obtain rfl | rfl | rfl | rfl | rfl | rfl | rfl := form <;> rfl
    exact onlyRetires_of_retire body available
  · have body : exec (.fenceI imm rs1 rd) s =
        run (.fenceI imm rs1 rd) s fun s => .ok () (retire { s with istale := [] }) := rfl
    obtain ⟨regs, bytes, went⟩ := retire_frame (s := s) (u := { s with istale := [] }) rfl rfl rfl rfl rfl
    refine ⟨_, body.trans (run_available available _), regs, bytes, went, ?_, fetchWord_of_fresh ?_⟩
    · rw [retire_eq]
      rfl
    · rw [retire, retireTo_istale]

end Sys2Proof.Machine
end

section
/-! PROOF. The word instructions: what an operation on the low 32 bits makes of the integers its operands stand for, and the
result sign-extended (41_rv64i R621). -/

namespace Sys2Proof.Machine

/-! ### Integers modulo 2^32 -/

theorem xlen_ge_32 (c : Config) : 32 ≤ c.xlen := by
  unfold Config.xlen
  split <;> decide

/-- XLEN is at least 32, so an integer the value stands for has the same low 32 bits. -/
theorem StandsFor.low32 {c : Config} {w : Word} {z : Int} (h : StandsFor c w z) : low32 w = BitVec.ofInt 32 z := by
  have same : (w.toNat : Int) % 2 ^ 32 = z % 2 ^ 32 := h.of_dvd (pow_dvd_pow 2 (xlen_ge_32 c))
  apply BitVec.eq_of_toNat_eq
  rw [Machine.low32, BitVec.toNat_setWidth, BitVec.toNat_ofInt]
  omega

theorem low32_rX (s : State) (r : Reg) : low32 (rX s r) = BitVec.ofInt 32 (uReg s r) := (standsFor_rX s r).low32

theorem low32_immXlen (c : Config) (imm : BitVec 12) : low32 (immXlen c imm) = BitVec.ofInt 32 imm.toInt :=
  (standsFor_immXlen c imm).low32

theorem toNat_low32_rX (s : State) (r : Reg) : (low32 (rX s r)).toNat = uReg32 s r := BitVec.toNat_setWidth ..

theorem toInt_low32_rX (s : State) (r : Reg) : (low32 (rX s r)).toInt = sReg32 s r := BitVec.toInt_setWidth ..

theorem standsFor_sext32_ofInt (c : Config) (z : Int) : StandsFor c (sext32 (BitVec.ofInt 32 z)) (Int.bmod z (2 ^ 32)) :=
  BitVec.toInt_ofInt z ▸ standsFor_signExtend c (by decide) (BitVec.ofInt 32 z)

/-! ### Shifts of the low 32 bits -/

theorem low32_rX_shiftLeft (s : State) (r : Reg) (n : Nat) :
    low32 (rX s r) <<< n = BitVec.ofInt 32 (uReg32 s r * 2 ^ n : Nat) := by
  apply BitVec.eq_of_toNat_eq
  rw [BitVec.toNat_shiftLeft, toNat_low32_rX, Nat.shiftLeft_eq, BitVec.ofInt_natCast, BitVec.toNat_ofNat]

theorem low32_rX_ushiftRight (s : State) (r : Reg) (n : Nat) :
    low32 (rX s r) >>> n = BitVec.ofInt 32 (uReg32 s r / 2 ^ n : Nat) := by
  have quotient : (low32 (rX s r) >>> n).toNat = uReg32 s r / 2 ^ n := by
    rw [BitVec.toNat_ushiftRight, toNat_low32_rX, Nat.shiftRight_eq_div_pow]
  rw [← quotient, BitVec.ofInt_natCast, BitVec.ofNat_toNat, BitVec.setWidth_eq]

/-- An arithmetic right shift divides rounding down (R625, R630). -/
theorem low32_rX_sshiftRight (s : State) (r : Reg) (n : Nat) :
    (low32 (rX s r)).sshiftRight n = BitVec.ofInt 32 (sReg32 s r / 2 ^ n) := by
  have quotient : ((low32 (rX s r)).sshiftRight n).toInt = sReg32 s r / 2 ^ n := by
    rw [BitVec.toInt_sshiftRight, toInt_low32_rX, Int.shiftRight_eq_div_pow, Nat.cast_pow, Nat.cast_ofNat]
  rw [← quotient, BitVec.ofInt_toInt]

/-! ### The obligation -/

/-- An available instruction that writes the 32-bit value `f` back, sign-extended. -/
theorem yields_word {i : Instr} {s : State} {rd : Reg} {z : Int} (f : State → BitVec 32)
    (body : exec i s = run i s fun s => writeBack s rd (sext32 (f s))) (value : f s = BitVec.ofInt 32 z) :
    i.available s.cfg = true → yields i s rd (ofWord s.cfg z) :=
  yields_integer (fun s => sext32 (f s)) body (value ▸ standsFor_sext32_ofInt s.cfg z)

/-- Settles O3: each 32-bit value is the instruction's operation on what its operands stand for modulo 2^32. -/
theorem wordInstructions : Obligations.WordInstructions := by
  unfold Obligations.WordInstructions
  intro s rd rs1 rs2 imm shamt
  refine ⟨yields_word (fun s => low32 (rX s rs1) + low32 (immXlen s.cfg imm)) rfl ?addiw,
    yields_word (fun s => low32 (rX s rs1) + low32 (rX s rs2)) rfl ?addw,
    yields_word (fun s => low32 (rX s rs1) - low32 (rX s rs2)) rfl ?subw,
    yields_word (fun s => low32 (rX s rs1) <<< shamt.toNat) rfl (low32_rX_shiftLeft ..),
    yields_word (fun s => low32 (rX s rs1) >>> shamt.toNat) rfl (low32_rX_ushiftRight ..),
    yields_word (fun s => (low32 (rX s rs1)).sshiftRight shamt.toNat) rfl (low32_rX_sshiftRight ..),
    yields_word (fun s => low32 (rX s rs1) <<< shiftAmountW (rX s rs2)) rfl (low32_rX_shiftLeft ..),
    yields_word (fun s => low32 (rX s rs1) >>> shiftAmountW (rX s rs2)) rfl (low32_rX_ushiftRight ..),
    yields_word (fun s => (low32 (rX s rs1)).sshiftRight (shiftAmountW (rX s rs2))) rfl (low32_rX_sshiftRight ..)⟩
  case addiw => rw [low32_rX, low32_immXlen, BitVec.ofInt_add]
  case addw => rw [low32_rX, low32_rX, Nat.cast_add, BitVec.ofInt_add]
  case subw => rw [low32_rX, low32_rX, Int.sub_eq_add_neg, BitVec.ofInt_add, BitVec.ofInt_neg, BitVec.sub_eq_add_neg]

end Sys2Proof.Machine
end

section
/-! PROOF. The access check of the CSR instructions (43_zicsr R663, R666; 13_csr_hypervisor R310): what an access it lets
pass meets, and which counters it lets be read. -/

namespace Sys2Proof.Machine

/-! ### An access that is let pass -/

/-- Bits 9:8 of a CSR address, the privilege it asks for. -/
theorem toNat_addrLevel (addr : BitVec 12) : (addr.extractLsb' 8 2).toNat = addr.toNat / 256 % 4 := by
  rw [BitVec.extractLsb'_toNat, Nat.shiftRight_eq_div_pow]

/-- Bits 11:10 are 11 in the addresses of read-only registers. -/
theorem addrReadOnly_iff (addr : BitVec 12) : addr.extractLsb' 10 2 = 3 ↔ addr.toNat / 1024 = 3 := by
  have small := addr.isLt
  rw [← BitVec.toNat_inj, BitVec.extractLsb'_toNat, Nat.shiftRight_eq_div_pow]
  change addr.toNat / 1024 % 4 = 3 ↔ _
  omega

/-- The steps an access has passed: the register exists, it is not a write of a read-only one, and it has the privilege. -/
theorem csrCheck_eq_ok {s : State} {addr : BitVec 12} {w : Bool} {r : Csr} (h : csrCheck s addr w = .ok r) :
    ∃ a, csrAt addr = some a ∧ (addr.toNat / 1024 = 3 → w = false) ∧ privCheck s (addr.toNat / 256 % 4) = none ∧
      specialCheck s a = none ∧ r = csrRedirect s.virt a := by
  rw [← toNat_addrLevel, ← addrReadOnly_iff]
  unfold csrCheck at h
  split at h
  · cases h
  next a allocated =>
    split at h
    · cases h
    split at h
    · cases h
    next writable =>
      split at h
      · cases h
      next level =>
        split at h
        · cases h
        next special =>
          refine ⟨a, allocated, fun readOnly => ?_, level, special, (Except.ok.inj h).symm⟩
          simpa [readOnly] using writable

/-- The register reached is the one at the address, or with V = 1 the one that replaces it (R310). -/
theorem csrCheck_redirects {s : State} {addr : BitVec 12} {w : Bool} {a r : Csr} (allocated : csrAt addr = some a)
    (h : csrCheck s addr w = .ok r) : r = csrRedirect s.virt a := by
  obtain ⟨b, found, -, -, -, reached⟩ := csrCheck_eq_ok h
  cases allocated.symm.trans found
  exact reached

section
variable {s : State} {level : Nat} (h : privCheck s level = none)
include h

/-- With V = 0 the mode has the level, S-mode with the hypervisor extension as HS-mode. -/
theorem level_le_of_privCheck (virt : s.virt = false) :
    level ≤ s.priv.code ∨ (level = 2 ∧ s.priv = .S ∧ s.cfg.hasH = true) := by
  by_cases hs : s.cfg.hasH = true ∧ s.priv = .S
  · obtain ⟨hH, hp⟩ := hs
    have low : level ≤ 2 := by simpa [privCheck, virt, hH, hp] using h
    rw [hp]
    simp only [Priv.code, hH, and_true]
    omega
  · left
    simpa [privCheck, virt, hs] using h

/-- With V = 1 only unprivileged and, in VS-mode, supervisor addresses pass. -/
theorem level_of_privCheck_guest (virt : s.virt = true) (fits : level < 4) : level = 0 ∨ (level = 1 ∧ s.priv ≠ .U) := by
  have low : level ≠ 3 ∧ level ≠ 2 ∧ ¬ (level = 1 ∧ s.priv = .U) := by
    refine ⟨?_, ?_, ?_⟩ <;> intro k <;> simp [privCheck, virt, k] at h
  obtain ⟨machine, hypervisor, supervisor⟩ := low
  by_cases one : level = 1
  · exact .inr ⟨one, fun user => supervisor ⟨one, user⟩⟩
  · exact .inl (by omega)

end

/-! ### Counters -/

/-- A bit of a counter-enable register as read. -/
theorem getLsbD_counteren (c : Config) (x : BitVec 32) {n : Nat} (hn : n < 32) :
    (wrap c ((x &&& counterenMask c).setWidth 64)).getLsbD n = (x &&& counterenMask c).getLsbD n := by
  have fits : n < 64 := by omega
  rw [getLsbD_wrap_of_lt (lt_xlen_of_lt_32 c hn), BitVec.getLsbD_setWidth]
  simp [fits]

/-- R666 in the bits read. -/
theorem counterCheck_eq (s : State) {n : Nat} (hn : n < 32) :
    counterCheck s n =
      if s.priv = .M then none
      else if !(csrRead s .mcounteren).getLsbD n then some .illegal
      else if s.virt then
        if !(csrRead s .hcounteren).getLsbD n then some .virtual
        else if s.priv = .U ∧ !(csrRead s .scounteren).getLsbD n then some .virtual
        else none
      else if s.priv = .U ∧ s.cfg.hasS ∧ !(csrRead s .scounteren).getLsbD n then some .illegal
      else none := by
  have m : (csrRead s .mcounteren).getLsbD n = _ := getLsbD_counteren s.cfg s.m.mcounteren hn
  have h : (csrRead s .hcounteren).getLsbD n = _ := getLsbD_counteren s.cfg s.h.hcounteren hn
  have u : (csrRead s .scounteren).getLsbD n = _ := getLsbD_counteren s.cfg s.sv.scounteren hn
  rw [m, h, u]
  rfl

/-- M-mode reads every counter, another mode those that each register it is bound by enables. -/
theorem counterCheck_allowed {s : State} {n : Nat} (hn : n < 32)
    (allowed : s.priv = .M ∨ ((csrRead s .mcounteren).getLsbD n = true ∧
      (s.virt = true → (csrRead s .hcounteren).getLsbD n = true) ∧
      (s.priv = .U → (s.virt = true ∨ s.cfg.hasS = true) → (csrRead s .scounteren).getLsbD n = true))) :
    counterCheck s n = none := by
  rw [counterCheck_eq s hn]
  by_cases machine : s.priv = .M
  · exact if_pos machine
  obtain ⟨m, h, u⟩ := allowed.resolve_left machine
  cases virt : s.virt
  · have free : ¬ (s.priv = .U ∧ s.cfg.hasS = true ∧ (csrRead s .scounteren).getLsbD n = false) :=
      fun ⟨user, hS, off⟩ => by simp [u user (.inr hS)] at off
    simp [machine, m, free]
  · have free : ¬ (s.priv = .U ∧ (csrRead s .scounteren).getLsbD n = false) :=
      fun ⟨user, off⟩ => by simp [u user (.inl virt)] at off
    simp [machine, m, h virt, free]

/-- The 32 counters of 0xC00 and the high halves of 0xC80, each controlled by the bit of its own number. -/
theorem csrCounter_at :
    ∀ n < 32, (csrAt (BitVec.ofNat 12 (0xC00 + n))).map csrCounter = some (some n) ∧
      (csrAt (BitVec.ofNat 12 (0xC80 + n))).map csrCounter = some (some n) := by
  decide

/-- The nine registers that VS registers replace are no counters. -/
theorem csrRedirect_counter {r : Csr} {n : Nat} (number : csrCounter r = some n) (virt : Bool) : csrRedirect virt r = r := by
  unfold csrRedirect
  split
  · split
    case h_10 => rfl
    all_goals cases number
  · rfl

section
variable {addr : BitVec 12} {r : Csr} {n : Nat} (allocated : csrAt addr = some r) (hn : n < 32)
  (counter : addr.toNat = 0xC00 + n ∨ addr.toNat = 0xC80 + n)
include allocated hn counter

theorem csrCounter_of_address : csrCounter r = some n := by
  obtain ⟨low, high⟩ := csrCounter_at n hn
  have found : (csrAt addr).map csrCounter = some (some n) := by
    obtain at_ | at_ := counter <;> rw [← BitVec.setWidth_eq addr, ← BitVec.ofNat_toNat, at_]
    exacts [low, high]
  simpa [allocated] using found

/-- A counter is at an unprivileged address: only R666 can forbid that it is read. -/
theorem csrCheck_counter {s : State} (exists_ : csrExists s.cfg r = true) :
    csrCheck s addr false = (counterCheck s n).elim (.ok r) .error := by
  have number := csrCounter_of_address allocated hn counter
  have level : (addr.extractLsb' 8 2).toNat = 0 := by rw [toNat_addrLevel]; omega
  have unprivileged : privCheck s 0 = none := by simp [privCheck]
  have special : specialCheck s r = counterCheck s n := by simp only [specialCheck, number]
  simp only [csrCheck, allocated, exists_, level, unprivileged, special, csrRedirect_counter number, Bool.not_true,
    Bool.false_and, Bool.false_eq_true, if_false]
  cases counterCheck s n <;> rfl

end

/-! ### The obligation on the access check -/

/-- Settles O16: the steps an access has passed, R666 in the bits read, and the register at each of the eleven addresses. -/
theorem csrPrivilegeIsEnforced : Obligations.CsrPrivilegeIsEnforced := by
  unfold Obligations.CsrPrivilegeIsEnforced
  refine ⟨fun s csr w r passed => ?_, fun s a r n allocated exists_ hn counter => ?_, fun s w r virt => ?_⟩
  · obtain ⟨-, -, writable, privileged, -, -⟩ := csrCheck_eq_ok passed
    exact ⟨writable, level_le_of_privCheck privileged,
      fun virt => level_of_privCheck_guest privileged virt (Nat.mod_lt _ (by decide))⟩
  · dsimp only
    rw [csrCheck_counter allocated hn counter exists_, counterCheck_eq s hn]
    refine ⟨fun below m => ?_, fun below m virt denied => ?_, fun user m virt hS u => ?_, fun allowed => ?_⟩
    · simp [below, m]
    · obtain h | ⟨user, u⟩ := denied
      · simp [below, m, virt, h]
      · simp [user, m, virt, u]
    · simp [user, m, virt, hS, u]
    · rw [← counterCheck_eq s hn, counterCheck_allowed hn allowed]
      rfl
  · have reached {addr : BitVec 12} (b : Csr) (allocated : csrAt addr = some b) (passed : csrCheck s addr w = .ok r) :
        r = csrRedirect true b := virt ▸ csrCheck_redirects allocated passed
    exact ⟨reached .sstatus rfl, reached .sie rfl, reached .stvec rfl, reached .sscratch rfl, reached .sepc rfl,
      reached .scause rfl, reached .stval rfl, reached .sip rfl, reached .satp rfl, reached .scounteren rfl,
      reached .senvcfg rfl⟩

end Sys2Proof.Machine
end

section
/-! PROOF. The six CSR instructions are one operation (43_zicsr R661, R662), with the value it writes and whether it writes. -/

namespace Sys2Proof.Machine

/-- `i` is the CSR instruction on `csr` that writes `new` of the old value if `w` (R670 to R675). -/
def CsrForm (s : State) (rd rs1 : Reg) (uimm : BitVec 5) (csr : BitVec 12) (i : Instr) (w : Bool) (new : Word → Word) : Prop :=
  (i = .csrrw rd rs1 csr ∧ w = true ∧ new = fun _ => rX s rs1) ∨
  (i = .csrrs rd rs1 csr ∧ w = (rs1 != 0) ∧ new = fun o => o ||| rX s rs1) ∨
  (i = .csrrc rd rs1 csr ∧ w = (rs1 != 0) ∧ new = fun o => o &&& ~~~(rX s rs1)) ∨
  (i = .csrrwi rd uimm csr ∧ w = true ∧ new = fun _ => uimm.setWidth 64) ∨
  (i = .csrrsi rd uimm csr ∧ w = (uimm != 0) ∧ new = fun o => o ||| uimm.setWidth 64) ∨
  (i = .csrrci rd uimm csr ∧ w = (uimm != 0) ∧ new = fun o => o &&& ~~~(uimm.setWidth 64))

section
variable {s : State} {rd rs1 : Reg} {uimm : BitVec 5} {csr : BitVec 12} {i : Instr} {w : Bool} {new : Word → Word}
  (form : CsrForm s rd rs1 uimm csr i w new)
include form

/-- An instruction that does not write would write the old value. -/
theorem CsrForm.unwritten (h : w = false) (old : Word) : new old = old := by
  obtain ⟨-, rfl, -⟩ | ⟨-, rfl, rfl⟩ | ⟨-, rfl, rfl⟩ | ⟨-, rfl, -⟩ | ⟨-, rfl, rfl⟩ | ⟨-, rfl, rfl⟩ := form
  case inl | inr.inr.inr.inl => cases h
  all_goals
    have zero := bne_eq_false_iff_eq.1 h
    simp only [zero, BitVec.ofNat_eq_ofNat, rX_zero, BitVec.setWidth_zero, BitVec.not_zero, BitVec.and_allOnes, BitVec.or_zero]

variable (available : i.available s.cfg = true)
include available

theorem exec_csrForm : exec i s = conclude (encode i) (csrOp i s rd csr w new) := by
  have ran (f : State → Word → Word) (body : exec i s = run i s fun s => csrOp i s rd csr w (f s)) :
      exec i s = conclude (encode i) (csrOp i s rd csr w (f s)) := body.trans (run_available available _)
  obtain ⟨rfl, rfl, rfl⟩ | ⟨rfl, rfl, rfl⟩ | ⟨rfl, rfl, rfl⟩ | ⟨rfl, rfl, rfl⟩ | ⟨rfl, rfl, rfl⟩ | ⟨rfl, rfl, rfl⟩ := form
  · exact ran (fun s _ => rX s rs1) rfl
  · exact ran (fun s old => old ||| rX s rs1) rfl
  · exact ran (fun s old => old &&& ~~~(rX s rs1)) rfl
  · exact ran (fun _ _ => uimm.setWidth 64) rfl
  · exact ran (fun _ old => old ||| uimm.setWidth 64) rfl
  · exact ran (fun _ old => old &&& ~~~(uimm.setWidth 64)) rfl

/-- The access is let pass: the instruction retires, the register is written if it is to be, and rd gets the old value. -/
theorem exec_csr_permitted {r : Csr} (h : csrCheck s csr w = .ok r) :
    exec i s = .next
      (wX (if w then csrWrite (retire s) r (wrap s.cfg (new (csrOld s r))) else retire s) rd (csrRead s r)) := by
  rw [exec_csrForm form available, csrOp_permitted h]
  rfl

theorem exec_csr_illegal (h : csrCheck s csr w = .error .illegal) : traps i s (illegalExc (encode i)) := by
  rw [traps, exec_csrForm form available, csrOp, h]
  rfl

theorem exec_csr_virtual (h : csrCheck s csr w = .error .virtual) : traps i s (virtualExc (encode i)) := by
  rw [traps, exec_csrForm form available, csrOp, h]
  rfl

end

/-! ### mscratch -/

/-- mscratch: machine level, and no guard of its own. -/
theorem csrCheck_mscratch {s : State} (hp : s.priv = .M) (hv : s.virt = false) (w : Bool) :
    csrCheck s 0x340 w = .ok .mscratch := by
  have unguarded : specialCheck s .mscratch = none := by simp [specialCheck, csrCounter]
  rw [csrCheck_eq (r := .mscratch) rfl rfl rfl, unguarded, Option.or_none]
  change (privCheck s 3).elim _ _ = _
  rw [privCheck_machine hp hv (by decide), hv]
  rfl

/-- The machine with another value in mscratch. -/
def setMscratch (s : State) (v : Word) : State := { s with m := { s.m with mscratch := v } }

theorem setMscratch_unchanged (s : State) : setMscratch (retire s) s.m.mscratch = retire s := by
  rw [retire_eq]
  rfl

/-- The frame of the six instructions on mscratch: they retire, and mscratch and rd are written. -/
theorem mscratch_frame (s : State) (rd : Reg) (v old : Word) :
    let t := wX (setMscratch (retire s) v) rd old
    wroteReg s t rd (wrap s.cfg old) ∧ wentTo s t (ofXlen s.cfg (s.pc.toNat + 4)) ∧ t.m.mscratch = v ∧ sameBytes s t ∧
      sameRest s { t with m := { t.m with mscratch := s.m.mscratch } } := by
  dsimp only
  refine ⟨fun r => ?_, ?_, by rw [wX_m]; rfl, fun a => ?_, ?_⟩
  · rw [rX_wX, retire_eq]
    rfl
  · rw [wentTo, wX_pc, wX_m, retire_eq, ← nextPc_eq_ofXlen]
    exact ⟨rfl, rfl⟩
  · rw [wX_mem, retire_eq]
    rfl
  · rw [retire_eq]
    unfold sameRest wX
    split <;> rfl

/-! ### The obligation -/

/-- Settles O15: on mscratch the check passes and the frame is `mscratch_frame`; on any register the check decides. -/
theorem csrInstructionsReadAndWrite : Obligations.CsrInstructionsReadAndWrite := by
  unfold Obligations.CsrInstructionsReadAndWrite
  refine ⟨fun s rd rs1 uimm i new => ?_, fun s rd rs1 uimm csr i w new form available => ?_⟩
  · intro old forms available hp hv
    obtain ⟨w, f, form, value⟩ : ∃ w f, CsrForm s rd rs1 uimm 0x340 i w f ∧ f old = new := by
      obtain ⟨rfl, rfl⟩ | ⟨rfl, rfl⟩ | ⟨rfl, rfl⟩ | ⟨rfl, rfl⟩ | ⟨rfl, rfl⟩ | ⟨rfl, rfl⟩ := forms
      exacts [⟨_, _, .inl ⟨rfl, rfl, rfl⟩, rfl⟩, ⟨_, _, .inr (.inl ⟨rfl, rfl, rfl⟩), rfl⟩,
        ⟨_, _, .inr (.inr (.inl ⟨rfl, rfl, rfl⟩)), rfl⟩, ⟨_, _, .inr (.inr (.inr (.inl ⟨rfl, rfl, rfl⟩))), rfl⟩,
        ⟨_, _, .inr (.inr (.inr (.inr (.inl ⟨rfl, rfl, rfl⟩)))), rfl⟩,
        ⟨_, _, .inr (.inr (.inr (.inr (.inr ⟨rfl, rfl, rfl⟩)))), rfl⟩]
    have ran := exec_csr_permitted form available (csrCheck_mscratch hp hv w)
    have read : csrRead s .mscratch = old := rfl
    have current : csrOld s .mscratch = old := rfl
    obtain ⟨stored, written, kept⟩ : ∃ v, (if w then csrWrite (retire s) .mscratch (wrap s.cfg new) else retire s) =
        setMscratch (retire s) v ∧ wrap s.cfg v = wrap s.cfg new := by
      cases w
      · exact ⟨s.m.mscratch, (setMscratch_unchanged s).symm, by rw [← value, form.unwritten rfl, wrap_wrap]⟩
      · exact ⟨wrap s.cfg new, rfl, wrap_wrap ..⟩
    rw [current, value, written, read] at ran
    obtain ⟨regs, went, mscratch, bytes, rest⟩ := mscratch_frame s rd stored old
    rw [wrap_wrap] at regs
    exact ⟨_, ran, regs, went, by rw [mscratch, kept], bytes, rest⟩
  · exact ⟨fun r => exec_csr_permitted form available, exec_csr_illegal form available, exec_csr_virtual form available⟩

end Sys2Proof.Machine
end

section
/-! PROOF. In user mode an instruction that stays there leaves the control state: its traps leave user mode, and what would
change a control register is denied (43_zicsr R663, 46_privileged R753, 48_hypervisor R803). -/

namespace Sys2Proof.Machine

/-! ### Control state -/

/-- All state that user mode may not change: the CSRs but minstret, which counts its instructions, the PMP settings, the
virtualization mode and the parameters. -/
def controlState (s : State) : Config × Bool × MCsrs × SCsrs × HCsrs × VCsrs × Pmp × List Pmp × List Pmp :=
  (s.cfg, s.virt, { s.m with minstret := 0 }, s.sv, s.h, s.vs, s.pmp, s.pmpStale, s.pmpStaleG)

theorem controlState_retireTo (s : State) (t : Word) : controlState (retireTo s t) = controlState s := by
  simp [controlState, retireTo_m]

theorem controlState_retire (s : State) : controlState (retire s) = controlState s := controlState_retireTo ..

theorem controlState_wX (s : State) (rd : Reg) (v : Word) : controlState (wX s rd v) = controlState s := by
  simp [controlState]

theorem Touched.controlState {s t : State} (h : Touched s t) : controlState t = controlState s := by
  simp only [Machine.controlState, h.cfg, h.virt, h.m, h.sv, h.h, h.vs, h.pmp, h.pmpStale, h.pmpStaleG]

theorem controlState_retire_wX (s : State) (rd : Reg) (v : Word) : controlState (retire (wX s rd v)) = controlState s :=
  (controlState_retire _).trans (controlState_wX ..)

/-! ### What completes leaves it -/

/-- If the operation completes, control state is that of `s`. -/
def Res.KeepsControl {α : Type} (s : State) : Res α → Prop
  | .ok _ t => controlState t = controlState s
  | .trap _ _ => True

theorem Res.KeepsControl.of_ok {α : Type} {s t : State} {r : Res α} {a : α} (h : r.KeepsControl s) (completed : r = .ok a t) :
    controlState t = controlState s := by
  subst completed
  exact h

theorem keepsControl_of {α : Type} {s : State} {r : Res α} (h : ∀ a t, r = .ok a t → controlState t = controlState s) :
    r.KeepsControl s := by
  cases r
  exacts [h _ _ rfl, trivial]

theorem keepsControl_bind {α β : Type} {s : State} {r : Res α} {f : α → State → Res β} (h : r.KeepsControl s)
    (k : ∀ a t, (f a t).KeepsControl t) : (r.bind f).KeepsControl s := by
  refine keepsControl_of fun b u hb => ?_
  obtain ⟨a, t, hr, hf⟩ := bind_eq_ok.1 hb
  exact ((k a t).of_ok hf).trans (h.of_ok hr)

theorem Res.Touches.keepsControl {α : Type} {s : State} {r : Res α} (h : Res.Touches s r) : r.KeepsControl s :=
  keepsControl_of fun a t hr => (h.1 a t hr).controlState

theorem keepsControl_writeBack (s : State) (rd : Reg) (v : Word) : (writeBack s rd v).KeepsControl s :=
  controlState_retire_wX s rd v

theorem keepsControl_retire (s : State) : (Res.ok () (retire s)).KeepsControl s :=
  controlState_retire s

theorem keepsControl_jump (s : State) (rd : Reg) (t : Word) : (jump s rd t).KeepsControl s := by
  obtain ⟨-, e⟩ | ⟨-, e⟩ := jump_cases s rd t <;> rw [e]
  · exact (controlState_retireTo ..).trans (controlState_wX ..)
  · exact trivial

theorem keepsControl_branch (s : State) (cond : Bool) (imm : BitVec 12) : (branch s cond imm).KeepsControl s := by
  obtain ⟨-, e⟩ | ⟨-, -, e⟩ | ⟨-, -, e⟩ := branch_cases s cond imm <;> rw [e]
  · exact keepsControl_retire s
  · exact controlState_retireTo ..
  · exact trivial

theorem keepsControl_loadTo (s : State) (via : Via) (u : PmaUse) (rd : Reg) (ea : Word) (n : Nat) (signed : Bool) :
    (loadTo s via u rd ea n signed).KeepsControl s :=
  keepsControl_bind (memRead_touches ..).keepsControl fun _ _ => keepsControl_writeBack ..

theorem keepsControl_storeFrom (s : State) (via : Via) (ea : Word) (n : Nat) (v : Word) :
    (storeFrom s via ea n v).KeepsControl s :=
  keepsControl_bind (memWrite_touches ..).keepsControl fun _ t => keepsControl_retire t

theorem keepsControl_amoTo (s : State) (rd : Reg) (op : AmoOp) (ea : Word) (n : Nat) (src : Word) :
    (amoTo s rd op ea n src).KeepsControl s :=
  keepsControl_bind (amo_touches ..).keepsControl fun _ _ => keepsControl_writeBack ..

theorem keepsControl_lrTo (s : State) (rd : Reg) (ea : Word) (n : Nat) : (lrTo s rd ea n).KeepsControl s := by
  have reserved : (loadReserved s ea n).KeepsControl s := keepsControl_of fun v t h => by
    obtain ⟨_, _, _, touched, _⟩ := loadReserved_ok h
    exact touched.controlState
  exact keepsControl_bind reserved fun _ _ => keepsControl_writeBack ..

theorem keepsControl_scTo (s : State) (rd : Reg) (ea : Word) (n : Nat) (v : Word) : (scTo s rd ea n v).KeepsControl s := by
  have stored : (storeConditional s ea n v).KeepsControl s :=
    keepsControl_of fun c t h => (storeConditional_ok h).1.controlState
  exact keepsControl_bind stored fun _ _ => keepsControl_writeBack ..

theorem keepsControl_permit {i : Instr} {s : State} {d : Option Denied} {body : Res Unit}
    (h : d = none → body.KeepsControl s) : (permit i s d body).KeepsControl s := by
  refine keepsControl_of fun _ t ht => ?_
  obtain ⟨permitted, completed⟩ := permit_eq_ok ht
  exact (h permitted).of_ok completed

/-! ### CSR instructions in user mode -/

/-- Every unprivileged register is at a read-only address: those of the counters (10_state R75). -/
theorem csrAt_unprivileged {addr : BitVec 12} {r : Csr} (allocated : csrAt addr = some r)
    (unprivileged : addr.toNat / 256 % 4 = 0) : addr.toNat / 1024 = 3 := by
  have tables : ∀ e ∈ csrTableS ++ csrTableH ++ csrTableM, e.1 / 256 % 4 = 0 → e.1 / 1024 = 3 := by decide
  unfold csrAt at allocated
  dsimp only at allocated
  split at allocated
  next listed =>
    obtain ⟨before, after, table, -⟩ := List.lookup_eq_some_iff.1 listed
    have member (e) (h : e ∈ before ++ (addr.toNat, _) :: after) := tables e (table ▸ h)
    exact member _ (List.mem_append_right _ List.mem_cons_self) unprivileged
  next =>
    by_contra writable
    repeat rw [if_neg (by omega)] at allocated
    cases allocated

/-- The check grants user mode unprivileged addresses only, with V = 0 and V = 1, so no write. -/
theorem csrCheck_user {s : State} (user : s.priv = .U) {addr : BitVec 12} {w : Bool} {r : Csr}
    (h : csrCheck s addr w = .ok r) : w = false := by
  obtain ⟨a, allocated, readOnly, level, -, -⟩ := csrCheck_eq_ok h
  refine readOnly (csrAt_unprivileged allocated ?_)
  cases virt : s.virt
  · obtain low | ⟨-, supervisor, -⟩ := level_le_of_privCheck level virt
    · simpa [user, Priv.code] using low
    · simp [user] at supervisor
  · obtain zero | ⟨-, above⟩ := level_of_privCheck_guest level virt (Nat.mod_lt _ (by decide))
    exacts [zero, absurd user above]

theorem keepsControl_csrOp {s : State} (user : s.priv = .U) (i : Instr) (rd : Reg) (addr : BitVec 12) (w : Bool)
    (new : Word → Word) : (csrOp i s rd addr w new).KeepsControl s := by
  cases check : csrCheck s addr w with
  | error d => cases d <;> simp only [csrOp, check] <;> trivial
  | ok r =>
    obtain rfl := csrCheck_user user check
    rw [csrOp_permitted check]
    exact (controlState_wX ..).trans (controlState_retire s)

/-! ### Instructions denied to user mode -/

section
variable {s : State} (user : s.priv = .U)
include user

theorem sretDenied_user : sretDenied s ≠ none := by cases virt : s.virt <;> simp [sretDenied, user, virt]

theorem sfenceDenied_user : sfenceDenied s ≠ none := by cases virt : s.virt <;> simp [sfenceDenied, user, virt]

theorem hfenceVDenied_user : hfenceVDenied s ≠ none := by cases virt : s.virt <;> simp [hfenceVDenied, user, virt]

theorem hfenceGDenied_user : hfenceGDenied s ≠ none := by cases virt : s.virt <;> simp [hfenceGDenied, user, virt]

end

/-! ### Every instruction -/

/-- Of the next state an outcome may give: if it is in user mode, control state is that of `s`. -/
def userKeepsControl (s : State) (o : Out) : Prop := ∀ t, o = .next t → t.priv = .U → controlState t = controlState s

/-- A trap is never taken into user mode. -/
theorem raise_not_user (s : State) (inst : Inst) (e : Exc) : (raise s inst e).priv ≠ .U := by
  rw [raise, (takeTrap_mode ..).1]
  split <;> decide

/-- An instruction after which the hart is in user mode has completed. -/
theorem userKeepsControl_run {i : Instr} {s : State} {body : State → Res Unit} (h : (body s).KeepsControl s) :
    userKeepsControl s (run i s body) := by
  intro t ht user
  obtain completed | ⟨e, u, -, rfl⟩ | rfl := run_eq_next ht
  · exact h.of_ok completed
  · exact absurd user (raise_not_user _ _ _)
  · exact absurd user (raise_not_user _ _ _)

/-- Instructions by what their bodies are built of. -/
theorem userKeepsControl_exec (i : Instr) {s : State} (user : s.priv = .U) : userKeepsControl s (exec i s) := by
  unfold exec
  cases i with
  | lui | auipc | addi | slti | sltiu | xori | ori | andi | slli | srli | srai | add | sub | sll | slt | sltu | xor | srl
  | sra | or | and | addiw | slliw | srliw | sraiw | addw | subw | sllw | srlw | sraw | mul | mulh | mulhsu | mulhu | div
  | divu | rem | remu | mulw | divw | divuw | remw | remuw => exact userKeepsControl_run (keepsControl_writeBack ..)
  | jal | jalr => exact userKeepsControl_run (keepsControl_jump ..)
  | beq | bne | blt | bge | bltu | bgeu => exact userKeepsControl_run (keepsControl_branch ..)
  | lb | lh | lw | lbu | lhu | ld | lwu => exact userKeepsControl_run (keepsControl_loadTo ..)
  | sb | sh | sw | sd => exact userKeepsControl_run (keepsControl_storeFrom ..)
  | lrW | lrD => exact userKeepsControl_run (keepsControl_lrTo ..)
  | scW | scD => exact userKeepsControl_run (keepsControl_scTo ..)
  | amoswapW | amoaddW | amoxorW | amoandW | amoorW | amominW | amomaxW | amominuW | amomaxuW | amoswapD | amoaddD
  | amoxorD | amoandD | amoorD | amominD | amomaxD | amominuD | amomaxuD =>
    exact userKeepsControl_run (keepsControl_amoTo ..)
  | nop | fence | fenceTso | pause | ntlP1 | ntlPall | ntlS1 | ntlAll => exact userKeepsControl_run (keepsControl_retire s)
  | fenceI => exact userKeepsControl_run (controlState_retire _)
  | ecall | ebreak => exact userKeepsControl_run trivial
  | csrrw | csrrs | csrrc | csrrwi | csrrsi | csrrci => exact userKeepsControl_run (keepsControl_csrOp user ..)
  | mret => exact userKeepsControl_run (keepsControl_permit fun permitted => by simp [user] at permitted)
  | sret => exact userKeepsControl_run (keepsControl_permit fun permitted => absurd permitted (sretDenied_user user))
  | wfi => exact userKeepsControl_run (keepsControl_permit fun _ => (controlState_retire s))
  | sfenceVma | sinvalVma =>
    exact userKeepsControl_run (keepsControl_permit fun permitted => absurd permitted (sfenceDenied_user user))
  | sfenceWInval | sfenceInvalIr => exact userKeepsControl_run (keepsControl_permit fun _ => keepsControl_retire s)
  | hfenceVvma | hinvalVvma =>
    exact userKeepsControl_run (keepsControl_permit fun permitted => absurd permitted (hfenceVDenied_user user))
  | hfenceGvma | hinvalGvma =>
    exact userKeepsControl_run (keepsControl_permit fun permitted => absurd permitted (hfenceGDenied_user user))
  | hlvB | hlvBu | hlvH | hlvHu | hlvxHu | hlvW | hlvWu | hlvxWu | hlvD =>
    exact userKeepsControl_run (keepsControl_permit fun _ => keepsControl_loadTo ..)
  | hsvB | hsvH | hsvW | hsvD => exact userKeepsControl_run (keepsControl_permit fun _ => keepsControl_storeFrom ..)

/-! ### The obligation -/

/-- Settles O47: the parts of the control state, one by one. -/
theorem userModeChangesNoControlState : Obligations.UserModeChangesNoControlState := by
  intro i s t user next stays
  have kept := userKeepsControl_exec i user t next stays
  simp only [controlState, Prod.mk.injEq] at kept
  obtain ⟨cfg, virt, m, sv, h, vs, pmp, stale, staleG⟩ := kept
  have restored : t.m = { s.m with minstret := t.m.minstret } :=
    congrArg (fun x : MCsrs => { x with minstret := t.m.minstret }) m
  exact ⟨restored, sv, h, vs, pmp, stale, staleG, virt, cfg⟩

end Sys2Proof.Machine
end

section
/-! PROOF. Only MRET and SRET lead to a less privileged mode or to V = 1: what completes leaves the mode and V as they are, and
a trap never goes down (60_exceptions R861 (5), 48_hypervisor R804). -/

namespace Sys2Proof.Machine

/-! ### What leaves the mode -/

/-- The privilege mode and V. -/
def modeOf (s : State) : Priv × Bool := (s.priv, s.virt)

theorem Touched.modeOf {s t : State} (h : Touched s t) : modeOf t = modeOf s := Prod.ext h.priv h.virt

theorem Res.Touches.modeOf {α : Type} {s : State} {r : Res α} (h : Res.Touches s r) : modeOf r.state = modeOf s := by
  cases r
  exacts [(h.1 _ _ rfl).modeOf, (h.2 _ _ rfl).modeOf]

theorem modeOf_bind {α β : Type} {s : State} {r : Res α} {f : α → State → Res β} (h : modeOf r.state = modeOf s)
    (k : ∀ a t, modeOf (f a t).state = modeOf t) : modeOf (r.bind f).state = modeOf s := by
  cases r
  exacts [(k ..).trans h, h]

theorem modeOf_retireTo (s : State) (t : Word) : modeOf (retireTo s t) = modeOf s :=
  Prod.ext (retireTo_priv ..) (retireTo_virt ..)

theorem modeOf_retire (s : State) : modeOf (retire s) = modeOf s := modeOf_retireTo ..

theorem modeOf_wX (s : State) (rd : Reg) (v : Word) : modeOf (wX s rd v) = modeOf s := Prod.ext (wX_priv ..) (wX_virt ..)

theorem modeOf_writeBack (s : State) (rd : Reg) (v : Word) : modeOf (writeBack s rd v).state = modeOf s :=
  (modeOf_retire _).trans (modeOf_wX ..)

theorem modeOf_jump (s : State) (rd : Reg) (t : Word) : modeOf (jump s rd t).state = modeOf s := by
  obtain ⟨-, e⟩ | ⟨-, e⟩ := jump_cases s rd t <;> rw [e]
  exacts [(modeOf_retireTo ..).trans (modeOf_wX ..), rfl]

theorem modeOf_branch (s : State) (cond : Bool) (imm : BitVec 12) : modeOf (branch s cond imm).state = modeOf s := by
  obtain ⟨-, e⟩ | ⟨-, -, e⟩ | ⟨-, -, e⟩ := branch_cases s cond imm <;> rw [e]
  exacts [modeOf_retire s, modeOf_retireTo .., rfl]

theorem modeOf_loadTo (s : State) (via : Via) (u : PmaUse) (rd : Reg) (ea : Word) (n : Nat) (signed : Bool) :
    modeOf (loadTo s via u rd ea n signed).state = modeOf s :=
  modeOf_bind (memRead_touches ..).modeOf fun _ _ => modeOf_writeBack ..

theorem modeOf_storeFrom (s : State) (via : Via) (ea : Word) (n : Nat) (v : Word) :
    modeOf (storeFrom s via ea n v).state = modeOf s :=
  modeOf_bind (memWrite_touches ..).modeOf fun _ t => modeOf_retire t

theorem modeOf_amoTo (s : State) (rd : Reg) (op : AmoOp) (ea : Word) (n : Nat) (src : Word) :
    modeOf (amoTo s rd op ea n src).state = modeOf s :=
  modeOf_bind (amo_touches ..).modeOf fun _ _ => modeOf_writeBack ..

theorem modeOf_lrTo (s : State) (rd : Reg) (ea : Word) (n : Nat) : modeOf (lrTo s rd ea n).state = modeOf s := by
  refine modeOf_bind ?_ fun _ _ => modeOf_writeBack ..
  refine modeOf_bind (access_touches ..).modeOf fun pas t => ?_
  exact modeOf_bind (readParts_touches ..).modeOf fun _ _ => rfl

theorem modeOf_storeConditional (s : State) (ea : Word) (n : Nat) (v : Word) :
    modeOf (storeConditional s ea n v).state = modeOf s := by
  refine modeOf_bind (access_touches ..).modeOf fun pas t => ?_
  have drawn_at : Touched t (spurious t).2 := by
    unfold spurious
    split
    exacts [touched_drawn t, .refl]
  split
  · split <;> rename_i e <;> rw [e] at drawn_at
    · exact drawn_at.modeOf
    · exact (modeOf_bind (writeParts_touches ..).modeOf fun _ _ => rfl).trans drawn_at.modeOf
  · rfl

theorem modeOf_scTo (s : State) (rd : Reg) (ea : Word) (n : Nat) (v : Word) :
    modeOf (scTo s rd ea n v).state = modeOf s :=
  modeOf_bind (modeOf_storeConditional ..) fun _ _ => modeOf_writeBack ..

theorem modeOf_csrOp (i : Instr) (s : State) (rd : Reg) (addr : BitVec 12) (w : Bool) (new : Word → Word) :
    modeOf (csrOp i s rd addr w new).state = modeOf s := by
  cases check : csrCheck s addr w with
  | error d => cases d <;> simp only [csrOp, check] <;> rfl
  | ok r =>
    rw [csrOp_permitted check]
    refine (modeOf_wX ..).trans ?_
    split
    · exact (Prod.ext (csrWrite_priv ..) (csrWrite_virt ..)).trans (modeOf_retire s)
    · exact modeOf_retire s

theorem modeOf_permit {i : Instr} {s : State} {d : Option Denied} {body : Res Unit} (h : modeOf body.state = modeOf s) :
    modeOf (permit i s d body).state = modeOf s := by
  unfold permit
  split
  exacts [h, rfl, rfl]

theorem modeOf_fence {s t : State} (priv : t.priv = s.priv) (virt : t.virt = s.virt) : modeOf (retire t) = modeOf s :=
  (modeOf_retire t).trans (Prod.ext priv virt)

/-! ### Every instruction -/

/-- The mode of the second state is at least that of the first, and V does not rise. -/
def notBelow (s t : State) : Prop := s.priv.code ≤ t.priv.code ∧ (t.virt = true → s.virt = true)

theorem notBelow_of_modeOf {s t : State} (h : modeOf t = modeOf s) : notBelow s t := by
  obtain ⟨priv, virt⟩ := Prod.mk.inj h
  exact ⟨(congrArg Priv.code priv).ge, fun v => virt ▸ v⟩

/-- M-mode's exceptions stay there, and only those of V = 1 go to VS-mode (R860). -/
theorem notBelow_raise {s u : State} (h : modeOf u = modeOf s) (inst : Inst) (e : Exc) : notBelow s (raise u inst e) := by
  obtain ⟨priv, virt⟩ := Prod.mk.inj h
  obtain ⟨mode, guest⟩ := takeTrap_mode u false e.cause (excDest u e.cause) (tvalOf u.cfg e) (tval2Of u.cfg e)
    (tinstOf u.cfg inst e) (gvaOf u.cfg e)
  rw [notBelow, raise, mode, guest, ← priv, ← virt]
  refine ⟨?_, fun v => by split at v <;> simp_all⟩
  split
  next => cases u.priv <;> decide
  next lower =>
    have below : u.priv ≠ .M := fun machine => lower (excDest_machine machine _)
    cases at_mode : u.priv <;> simp_all [Priv.code]

/-- Of the next state an outcome may give: it is not below. -/
def nextNotBelow (s : State) (o : Out) : Prop := ∀ t, o = .next t → notBelow s t

theorem nextNotBelow_run {i : Instr} {s : State} {body : State → Res Unit} (h : modeOf (body s).state = modeOf s) :
    nextNotBelow s (run i s body) := by
  intro t ht
  obtain completed | ⟨e, u, trapped, rfl⟩ | rfl := run_eq_next ht
  · rw [completed] at h
    exact notBelow_of_modeOf h
  · rw [trapped] at h
    exact notBelow_raise h ..
  · exact notBelow_raise rfl ..

/-- Instructions by what their bodies are built of. -/
theorem nextNotBelow_exec {i : Instr} (not_mret : i ≠ .mret) (not_sret : i ≠ .sret) (s : State) :
    nextNotBelow s (exec i s) := by
  unfold exec
  cases i with
  | lui | auipc | addi | slti | sltiu | xori | ori | andi | slli | srli | srai | add | sub | sll | slt | sltu | xor | srl
  | sra | or | and | addiw | slliw | srliw | sraiw | addw | subw | sllw | srlw | sraw | mul | mulh | mulhsu | mulhu | div
  | divu | rem | remu | mulw | divw | divuw | remw | remuw => exact nextNotBelow_run (modeOf_writeBack ..)
  | jal | jalr => exact nextNotBelow_run (modeOf_jump ..)
  | beq | bne | blt | bge | bltu | bgeu => exact nextNotBelow_run (modeOf_branch ..)
  | lb | lh | lw | lbu | lhu | ld | lwu => exact nextNotBelow_run (modeOf_loadTo ..)
  | sb | sh | sw | sd => exact nextNotBelow_run (modeOf_storeFrom ..)
  | lrW | lrD => exact nextNotBelow_run (modeOf_lrTo ..)
  | scW | scD => exact nextNotBelow_run (modeOf_scTo ..)
  | amoswapW | amoaddW | amoxorW | amoandW | amoorW | amominW | amomaxW | amominuW | amomaxuW | amoswapD | amoaddD
  | amoxorD | amoandD | amoorD | amominD | amomaxD | amominuD | amomaxuD => exact nextNotBelow_run (modeOf_amoTo ..)
  | nop | fence | fenceTso | pause | ntlP1 | ntlPall | ntlS1 | ntlAll => exact nextNotBelow_run (modeOf_retire s)
  | fenceI => exact nextNotBelow_run (modeOf_fence rfl rfl)
  | ecall | ebreak => exact nextNotBelow_run rfl
  | csrrw | csrrs | csrrc | csrrwi | csrrsi | csrrci => exact nextNotBelow_run (modeOf_csrOp ..)
  | mret => exact absurd rfl not_mret
  | sret => exact absurd rfl not_sret
  | wfi => exact nextNotBelow_run (modeOf_permit (modeOf_retire s))
  | sfenceVma | sinvalVma => exact nextNotBelow_run (modeOf_permit (modeOf_fence (sfence_priv ..) (sfence_virt ..)))
  | sfenceWInval | sfenceInvalIr => exact nextNotBelow_run (modeOf_permit (modeOf_retire s))
  | hfenceVvma | hinvalVvma => exact nextNotBelow_run (modeOf_permit (modeOf_fence (hfenceV_priv ..) (hfenceV_virt ..)))
  | hfenceGvma | hinvalGvma => exact nextNotBelow_run (modeOf_permit (modeOf_fence (hfenceG_priv ..) (hfenceG_virt ..)))
  | hlvB | hlvBu | hlvH | hlvHu | hlvxHu | hlvW | hlvWu | hlvxWu | hlvD =>
    exact nextNotBelow_run (modeOf_permit (modeOf_loadTo ..))
  | hsvB | hsvH | hsvW | hsvD => exact nextNotBelow_run (modeOf_permit (modeOf_storeFrom ..))

/-- Settles O46. -/
theorem onlyReturnsLowerThePrivilege : Obligations.OnlyReturnsLowerThePrivilege :=
  fun _ s t not_mret not_sret next => nextNotBelow_exec not_mret not_sret s t next

end Sys2Proof.Machine
end

section
/-! PROOF. Multiplication and division: the exact result of the integers the operands stand for, narrowed; the corners of
Table 9.1 are the truncated quotient and remainder modulo 2^L (44_m R682 to R696). -/

namespace Sys2Proof.Machine

/-! ### Exact results narrowed -/

theorem StandsFor.mul {c : Config} {a b : Word} {x y : Int} (ha : StandsFor c a x) (hb : StandsFor c b y) :
    StandsFor c (a * b) (x * y) := by
  have product : StandsFor c (a * b) (a.toNat * b.toNat) :=
    standsFor_of_modEq c (by rw [BitVec.toNat_mul, Int.natCast_emod, Nat.cast_mul]; exact Int.mod_modEq ..)
  exact product.trans (Int.ModEq.mul ha hb)

theorem standsFor_narrow (c : Config) (z : Int) : StandsFor c (narrow c z) z := by
  refine StandsFor.wrap (standsFor_of_modEq c ?_)
  rw [BitVec.toNat_ofInt, Int.toNat_of_nonneg (Int.emod_nonneg _ (by decide))]
  exact Int.mod_modEq ..

theorem ofXlen_congr {c : Config} {x y : Int} (h : x ≡ y [ZMOD 2 ^ c.xlen]) : ofXlen c x = ofXlen c y := by
  rw [ofXlen, h.eq, ofXlen]

theorem ofInt_congr {n : Nat} {x y : Int} (h : x ≡ y [ZMOD 2 ^ n]) : BitVec.ofInt n x = BitVec.ofInt n y := by
  apply BitVec.eq_of_toNat_eq
  rw [BitVec.toNat_ofInt, BitVec.toNat_ofInt, Nat.cast_pow, Nat.cast_ofNat, h.eq]

/-! ### Operands of L bits -/

theorem intOf_eq (L : Nat) (v : Word) : intOf L v = Int.bmod v.toNat (2 ^ L) := BitVec.toInt_setWidth ..

theorem natOf_eq (L : Nat) (v : Word) : natOf L v = v.toNat % 2 ^ L := BitVec.toNat_setWidth ..

theorem uReg_lt (s : State) (r : Reg) : uReg s r < 2 ^ s.cfg.xlen := by
  rw [uReg, ← wrap_rX, toNat_wrap]
  exact Nat.mod_lt _ (by simp)

@[simp] theorem intOf_xlen (s : State) (r : Reg) : intOf s.cfg.xlen (rX s r) = sReg s r := intOf_eq ..

@[simp] theorem natOf_xlen (s : State) (r : Reg) : natOf s.cfg.xlen (rX s r) = uReg s r :=
  (natOf_eq ..).trans (Nat.mod_eq_of_lt (uReg_lt s r))

@[simp] theorem intOf_32 (s : State) (r : Reg) : intOf 32 (rX s r) = sReg32 s r := intOf_eq ..

@[simp] theorem natOf_32 (s : State) (r : Reg) : natOf 32 (rX s r) = uReg32 s r := natOf_eq ..

/-- The two readings of an L-bit value agree modulo 2^L. -/
theorem bmod_modEq (n : Int) (L : Nat) : Int.bmod n (2 ^ L) ≡ n [ZMOD 2 ^ L] := by
  have same := Int.bmod_emod (x := n) (m := 2 ^ L)
  rwa [Nat.cast_pow, Nat.cast_ofNat] at same

theorem sReg_modEq (s : State) (r : Reg) : sReg s r ≡ uReg s r [ZMOD 2 ^ s.cfg.xlen] := bmod_modEq ..

theorem uReg32_modEq (s : State) (r : Reg) : (uReg32 s r : Int) ≡ uReg s r [ZMOD 2 ^ 32] := by
  rw [uReg32, Int.natCast_mod, Nat.cast_pow, Nat.cast_ofNat]
  exact Int.mod_modEq ..

theorem sReg32_modEq (s : State) (r : Reg) : sReg32 s r ≡ uReg32 s r [ZMOD 2 ^ 32] :=
  (bmod_modEq ..).trans (uReg32_modEq s r).symm

/-! ### The obligation on products -/

theorem standsFor_highHalf (c : Config) (z : Int) : StandsFor c (highHalf c z) (z / 2 ^ c.xlen) := standsFor_narrow ..

/-- Settles O4: each result is the low or the high half of the product of what the operands stand for. -/
theorem multiplication : Obligations.Multiplication := by
  unfold Obligations.Multiplication
  intro s rd rs1 rs2
  refine ⟨yields_integer (fun s => opMul s.cfg (rX s rs1) (rX s rs2)) rfl ?mul,
    yields_integer (fun s => opMulh s.cfg (rX s rs1) (rX s rs2)) rfl ?mulh,
    yields_integer (fun s => opMulhsu s.cfg (rX s rs1) (rX s rs2)) rfl ?mulhsu,
    yields_integer (fun s => opMulhu s.cfg (rX s rs1) (rX s rs2)) rfl ?mulhu,
    yields_word (fun s => low32 (rX s rs1) * low32 (rX s rs2)) rfl ?mulw⟩
  case mul =>
    rw [Nat.cast_mul]
    exact ((standsFor_rX s rs1).mul (standsFor_rX s rs2)).wrap
  case mulh => simpa only [opMulh, intOf_xlen] using standsFor_highHalf s.cfg _
  case mulhsu => simpa only [opMulhsu, intOf_xlen, natOf_xlen] using standsFor_highHalf s.cfg _
  case mulhu =>
    rw [Int.natCast_div, Nat.cast_mul, Nat.cast_pow, Nat.cast_ofNat]
    simpa only [opMulhu, natOf_xlen] using standsFor_highHalf s.cfg _
  case mulw => rw [low32_rX, low32_rX, Nat.cast_mul, BitVec.ofInt_mul]

/-! ### Quotients and remainders -/

/-- The overflow row of Table 9.1 is the truncated quotient modulo 2^L, as the dividend is its own negative. -/
theorem divS_modEq {L : Nat} (pos : 0 < L) (a b : Int) :
    divS L a b ≡ if b = 0 then -1 else a.tdiv b [ZMOD 2 ^ L] := by
  unfold divS
  split
  · rfl
  · split
    next h =>
      have halves : (2 : Int) ^ L = 2 * 2 ^ (L - 1) := by rw [← pow_succ', Nat.sub_add_cancel pos]
      rw [h.1, h.2, Int.tdiv_neg, Int.tdiv_one, neg_neg, halves]
      exact Int.modEq_iff_dvd.2 ⟨1, by ring⟩
    next => rfl

theorem remS_eq (L : Nat) (a b : Int) : remS L a b = if b = 0 then a else a.tmod b := by
  unfold remS
  split
  · rfl
  · split
    next h => rw [h.2, Int.tmod_neg, Int.tmod_one]
    next => rfl

/-- All ones is -1. -/
theorem divU_modEq (L a b : Nat) : (divU L a b : Int) ≡ if b = 0 then -1 else ((a / b : Nat) : Int) [ZMOD 2 ^ L] := by
  unfold divU
  split
  · rw [Nat.cast_sub Nat.one_le_two_pow, Nat.cast_pow]
    exact Int.modEq_iff_dvd.2 ⟨-1, by push_cast; ring⟩
  · exact .refl _

theorem remU_eq (a b : Nat) : remU a b = a % b := by
  unfold remU
  split
  next h => rw [h, Nat.mod_zero]
  next => rfl

/-- Settles O5: the operations on the integers the operands stand for, at XLEN and at 32 bits. -/
theorem divisionInstructions : Obligations.DivisionInstructions := by
  unfold Obligations.DivisionInstructions
  intro s rd rs1 rs2
  have positive : 0 < s.cfg.xlen := by have := xlen_ge_32 s.cfg; omega
  refine ⟨yields_integer (fun s => opDiv s.cfg (rX s rs1) (rX s rs2)) rfl ?div,
    yields_integer (fun s => opDivu s.cfg (rX s rs1) (rX s rs2)) rfl ?divu,
    yields_integer (fun s => opRem s.cfg (rX s rs1) (rX s rs2)) rfl ?rem,
    yields_integer (fun s => opRemu s.cfg (rX s rs1) (rX s rs2)) rfl ?remu,
    yields_word (fun s => .ofInt 32 (divS 32 (intOf 32 (rX s rs1)) (intOf 32 (rX s rs2)))) rfl ?divw,
    yields_word (fun s => .ofInt 32 (divU 32 (natOf 32 (rX s rs1)) (natOf 32 (rX s rs2)) : Nat)) rfl ?divuw,
    yields_word (fun s => .ofInt 32 (remS 32 (intOf 32 (rX s rs1)) (intOf 32 (rX s rs2)))) rfl ?remw,
    yields_word (fun s => .ofInt 32 (remU (natOf 32 (rX s rs1)) (natOf 32 (rX s rs2)) : Nat)) rfl ?remuw⟩
  case div =>
    rw [opDiv, intOf_xlen, intOf_xlen]
    exact (standsFor_narrow ..).trans (divS_modEq positive ..)
  case divu =>
    rw [opDivu, natOf_xlen, natOf_xlen]
    exact (standsFor_narrow ..).trans (divU_modEq ..)
  case rem =>
    rw [opRem, intOf_xlen, intOf_xlen, remS_eq]
    exact standsFor_narrow ..
  case remu =>
    rw [opRemu, natOf_xlen, natOf_xlen, remU_eq]
    exact standsFor_narrow ..
  case divw =>
    rw [intOf_32, intOf_32]
    exact ofInt_congr (divS_modEq (by decide) ..)
  case divuw =>
    rw [natOf_32, natOf_32]
    exact ofInt_congr (divU_modEq ..)
  case remw => rw [intOf_32, intOf_32, remS_eq]
  case remuw => rw [natOf_32, natOf_32, remU_eq]

/-! ### Table 9.1 -/

theorem ofXlen_uReg (s : State) (r : Reg) : ofXlen s.cfg (uReg s r) = rX s r := by
  rw [← wrap_of_standsFor (standsFor_rX s r), wrap_rX]

theorem ofXlen_sReg (s : State) (r : Reg) : ofXlen s.cfg (sReg s r) = rX s r :=
  (ofXlen_congr (sReg_modEq s r)).trans (ofXlen_uReg s r)

theorem ofXlen_zero (c : Config) : ofXlen c 0 = 0 := by
  rw [ofXlen, Int.zero_emod]
  rfl

theorem ofWord_congr (c : Config) {x y : Int} (h : x ≡ y [ZMOD 2 ^ 32]) : ofWord c x = ofWord c y := by
  have same : Int.bmod x (2 ^ 32) = Int.bmod y (2 ^ 32) := by
    rw [← Int.emod_bmod, ← Int.emod_bmod (x := y)]
    exact congrArg (Int.bmod · _) h.eq
  rw [ofWord, same, ofWord]

theorem ofWord_uReg32 (s : State) (r : Reg) : ofWord s.cfg (uReg32 s r) = ofWord s.cfg (uReg s r) :=
  ofWord_congr _ (uReg32_modEq s r)

theorem ofWord_sReg32 (s : State) (r : Reg) : ofWord s.cfg (sReg32 s r) = ofWord s.cfg (uReg s r) :=
  (ofWord_congr _ (sReg32_modEq s r)).trans (ofWord_uReg32 s r)

/-- The most negative integer of L bits is its own negative modulo 2^L: the overflowing quotient is the dividend. -/
theorem tdiv_overflow_modEq {L : Nat} (pos : 0 < L) : (-2 ^ (L - 1) : Int).tdiv (-1) ≡ -2 ^ (L - 1) [ZMOD 2 ^ L] := by
  have quotient := divS_modEq pos (-2 ^ (L - 1)) (-1)
  rw [divS, if_neg (by decide), if_pos ⟨rfl, rfl⟩, if_neg (by decide)] at quotient
  exact quotient.symm

theorem tmod_neg_one (a : Int) : a.tmod (-1) = 0 := by rw [Int.tmod_neg, Int.tmod_one]

/-! ### Quotient and remainder give the dividend back -/

/-- Numbers that stand modulo 2^L for integers with the identity of a division. -/
theorem dividend_of_parts {L a b t u : Nat} {x y q r : Int} (fits : a < 2 ^ L) (dividend : x ≡ a [ZMOD 2 ^ L])
    (divisor : (b : Int) ≡ y [ZMOD 2 ^ L]) (quotient : (t : Int) ≡ q [ZMOD 2 ^ L])
    (remainder : (u : Int) ≡ r [ZMOD 2 ^ L]) (identity : y * q + r = x) : (b * t + u) % 2 ^ L = a := by
  have same : ((b * t + u : Nat) : Int) ≡ a [ZMOD 2 ^ L] := by
    rw [Nat.cast_add, Nat.cast_mul]
    exact (((divisor.mul quotient).add remainder).trans (by rw [identity])).trans dividend
  have same : b * t + u ≡ a [MOD 2 ^ L] := Int.natCast_modEq_iff.1 (by exact_mod_cast same)
  rw [same, Nat.mod_eq_of_lt fits]

theorem signed_identity (x y : Int) :
    y * (if y = 0 then -1 else x.tdiv y) + (if y = 0 then x else x.tmod y) = x := by
  split
  next zero => rw [zero]; ring
  next => exact Int.mul_tdiv_add_tmod x y

theorem unsigned_identity (x y : Nat) :
    (y : Int) * (if y = 0 then -1 else ((x / y : Nat) : Int)) + (x % y : Nat) = x := by
  split
  next zero => simp [zero]
  next => exact_mod_cast Nat.div_add_mod x y

/-- A quotient and a remainder of XLEN bits, as two instructions yield them (R688). -/
theorem yields_identity {s : State} {rd rs1 rs2 : Reg} {i j : Instr} {x y q r : Int} (write : rd ≠ 0)
    (quotient : yields i s rd (ofXlen s.cfg q)) (remainder : yields j s rd (ofXlen s.cfg r))
    (dividend : x ≡ uReg s rs1 [ZMOD 2 ^ s.cfg.xlen]) (divisor : (uReg s rs2 : Int) ≡ y [ZMOD 2 ^ s.cfg.xlen])
    (identity : y * q + r = x) :
    ∃ t u, exec i s = .next t ∧ exec j s = .next u ∧
      ((rX s rs2).toNat * (rX t rd).toNat + (rX u rd).toNat) % 2 ^ s.cfg.xlen = (rX s rs1).toNat := by
  obtain ⟨t, ran_i, wrote_i, -⟩ := quotient
  obtain ⟨u, ran_j, wrote_j, -⟩ := remainder
  refine ⟨t, u, ran_i, ran_j, ?_⟩
  rw [wrote_i rd, wrote_j rd, if_pos ⟨rfl, write⟩, if_pos ⟨rfl, write⟩]
  exact dividend_of_parts (uReg_lt s rs1) dividend divisor (standsFor_ofXlen ..) (standsFor_ofXlen ..) identity

theorem toNat_ofWord_modEq (c : Config) (z : Int) : ((ofWord c z).toNat : Int) ≡ z [ZMOD 2 ^ 32] :=
  ((standsFor_ofXlen c _).of_dvd (pow_dvd_pow 2 (xlen_ge_32 c))).trans (bmod_modEq ..)

/-- The same of 32 bits. -/
theorem yields_word_identity {s : State} {rd rs1 rs2 : Reg} {i j : Instr} {x y q r : Int} (write : rd ≠ 0)
    (quotient : yields i s rd (ofWord s.cfg q)) (remainder : yields j s rd (ofWord s.cfg r))
    (dividend : x ≡ uReg32 s rs1 [ZMOD 2 ^ 32]) (divisor : (uReg32 s rs2 : Int) ≡ y [ZMOD 2 ^ 32])
    (identity : y * q + r = x) :
    ∃ t u, exec i s = .next t ∧ exec j s = .next u ∧
      (uReg32 s rs2 * (rX t rd).toNat + (rX u rd).toNat) % 2 ^ 32 = uReg32 s rs1 := by
  obtain ⟨t, ran_i, wrote_i, -⟩ := quotient
  obtain ⟨u, ran_j, wrote_j, -⟩ := remainder
  refine ⟨t, u, ran_i, ran_j, ?_⟩
  rw [wrote_i rd, wrote_j rd, if_pos ⟨rfl, write⟩, if_pos ⟨rfl, write⟩]
  exact dividend_of_parts (Nat.mod_lt _ (by decide)) dividend divisor (toNat_ofWord_modEq ..) (toNat_ofWord_modEq ..) identity

/-! ### The obligation on the corners -/

/-- Settles O6: the rows of Table 9.1 and the identity, from what each instruction yields. -/
theorem divisionCorners : Obligations.DivisionCorners := by
  unfold Obligations.DivisionCorners
  intro s rd rs1 rs2 x m avail
  obtain ⟨div, divu, rem, remu, divw, divuw, remw, remuw⟩ := divisionInstructions s rd rs1 rs2
  have ones (L : Nat) : (-1 : Int) ≡ 2 ^ L - 1 [ZMOD 2 ^ L] := Int.modEq_iff_dvd.2 ⟨1, by ring⟩
  have positive : 0 < s.cfg.xlen := lt_of_lt_of_le (by decide) (xlen_ge_32 s.cfg)
  refine ⟨fun zero => ?_, fun zero => ?_, fun least minus => ?_, fun least minus => ?_,
    fun a b i j isDividend isDivisor pair available write => ?_, fun i j pair available write => ?_⟩
  · have signed_zero : sReg s rs2 = 0 := by rw [sReg, zero, Nat.cast_zero, Int.zero_bmod]
    rw [if_pos zero, ofXlen_congr (ones _)] at divu
    rw [zero, Nat.mod_zero, ofXlen_uReg] at remu
    rw [if_pos signed_zero] at div
    rw [if_pos signed_zero, ofXlen_sReg] at rem
    exact ⟨by simpa [m, avail] using divu, remu, div, rem⟩
  · have signed_zero : sReg32 s rs2 = 0 := by
      have low : low32 (rX s rs2) = 0 := BitVec.eq_of_toNat_eq ((toNat_low32_rX s rs2).trans zero)
      rw [← toInt_low32_rX, low]
      rfl
    rw [if_pos zero, ofWord_congr _ (ones 32)] at divuw
    rw [zero, Nat.mod_zero, ofWord_uReg32] at remuw
    rw [if_pos signed_zero] at divw
    rw [if_pos signed_zero, ofWord_sReg32] at remw
    exact ⟨divuw, remuw, divw, remw⟩
  · rw [if_neg (by rw [minus]; decide), minus, least, ofXlen_congr (tdiv_overflow_modEq positive), ← least, ofXlen_sReg] at div
    rw [if_neg (by rw [minus]; decide), minus, tmod_neg_one, ofXlen_zero] at rem
    exact ⟨div, rem⟩
  · have overflow : ofWord s.cfg ((-2 ^ 31 : Int).tdiv (-1)) = ofWord s.cfg (-2 ^ 31) :=
      ofWord_congr _ (tdiv_overflow_modEq (L := 32) (Nat.zero_lt_succ 31))
    rw [if_neg (by rw [minus]; decide), minus, least, overflow, ← least, ofWord_sReg32] at divw
    rw [if_neg (by rw [minus]; decide), minus, tmod_neg_one, ofWord, Int.zero_bmod, ofXlen_zero] at remw
    exact ⟨divw, remw⟩
  · obtain ⟨rfl, rfl⟩ | ⟨rfl, rfl⟩ := pair <;> subst isDividend isDivisor
    · exact yields_identity write (div available) (rem available) (sReg_modEq s rs1) (sReg_modEq s rs2).symm
        (signed_identity ..)
    · exact yields_identity write (divu available) (remu available) (.refl _) (.refl _) (unsigned_identity ..)
  · obtain ⟨rfl, rfl⟩ | ⟨rfl, rfl⟩ := pair
    · exact yields_word_identity write (divw available) (remw available) (sReg32_modEq s rs1) (sReg32_modEq s rs2).symm
        (signed_identity ..)
    · exact yields_word_identity write (divuw available) (remuw available) (.refl _) (.refl _) (unsigned_identity ..)

end Sys2Proof.Machine
end

section
/-! PROOF. What a trap saves and where it goes, for each destination (60_exceptions R860, R862, R870; 61_hypervisor_traps R905
to R914). -/

namespace Sys2Proof.Machine

/-! ### Status registers with bits set -/

theorem mstatusBit_eq (s : State) (k : Nat) : mstatusBit s k = statusBit s.cfg k (s.m.mstatus.getLsbD k) :=
  getLsbD_mstatusRead s k

/-- A bit of MPP after a mode has been written to it. -/
theorem getLsbD_setMppField (w : Word) (p : Priv) {k : Nat} (h : k ≠ MPP ∧ k ≠ MPP + 1) :
    (setField w MPP 2 p.code).getLsbD k = w.getLsbD k := by
  have outside : (fieldMask MPP 2).getLsbD k = false := by
    simp only [getLsbD_fieldMask, MPP] at h ⊢
    grind
  rw [setField, getLsbD_merge, outside, if_neg Bool.false_ne_true]

theorem ofCode_code (p : Priv) : Priv.ofCode p.code = p := by cases p <;> rfl

theorem hstatusBit_of_writable {s : State} {k : Nat} (h : k = HGVA ∨ k = SPV ∨ k = SPVP) :
    hstatusBit s k = s.h.hstatus.getLsbD k := by
  have writable : (hstatusMask s.cfg).getLsbD k = true := by
    simp (disch := decide) only [hstatusMask, BitVec.getLsbD_or, getLsbD_bitMask]
    obtain rfl | rfl | rfl := h <;> simp [HGVA, SPV, SPVP]
  have not_fixed : (hstatusFixed s.cfg).getLsbD k = false := by
    rw [getLsbD_hstatusFixed]
    obtain rfl | rfl | rfl := h <;> simp [HGVA, SPV, SPVP]
  rw [hstatusBit, hstatusRead, BitVec.getLsbD_or, BitVec.getLsbD_and, writable, not_fixed, Bool.and_true, Bool.or_false]

theorem vsstatusBit_of_writable {s : State} {k : Nat} (h : k = SIE ∨ k = SPIE ∨ k = SPP) :
    vsstatusBit s k = s.vs.vsstatus.getLsbD k := by
  rw [vsstatusBit, vsstatusRead, BitVec.getLsbD_or, BitVec.getLsbD_and, getLsbD_vsstatusMask, getLsbD_vsstatusFixed]
  obtain rfl | rfl | rfl := h <;> simp [SIE, SPIE, SPP]

/-! ### Causes and targets -/

/-- The code with the interrupt flag as its top bit. -/
theorem toNat_causeWord (c : Config) (irq : Bool) {code : Nat} (fits : code < 2 ^ (c.xlen - 1)) :
    (causeWord c irq code).toNat = code + if irq then 2 ^ (c.xlen - 1) else 0 := by
  have small : (2 : Nat) ^ (c.xlen - 1) < 2 ^ 64 := by
    unfold Config.xlen
    split <;> decide
  have flag : (maskIf irq (bitMask (c.xlen - 1))).toNat = if irq then 2 ^ (c.xlen - 1) else 0 := by
    cases irq
    · rfl
    · exact (BitVec.toNat_ofNat ..).trans (Nat.mod_eq_of_lt small)
  rw [causeWord, BitVec.toNat_or, flag, BitVec.toNat_ofNat, Nat.mod_eq_of_lt (fits.trans small)]
  cases irq
  · simp
  · have sum := Nat.two_pow_add_eq_or_of_lt fits 1
    rw [mul_one] at sum
    rw [if_pos rfl, Nat.or_comm, ← sum, Nat.add_comm]

theorem code_fits (c : Config) {code : Nat} (small : code < 32) : code < 2 ^ (c.xlen - 1) := by
  have := xlen_ge_32 c
  exact small.trans_le (Nat.pow_le_pow_right (n := 2) (i := 5) (by decide) (by omega))

theorem standsFor_ofNat (c : Config) (n : Nat) : StandsFor c (BitVec.ofNat 64 n) n :=
  standsFor_of_modEq c (by rw [BitVec.toNat_ofNat, Int.natCast_mod]; exact Int.mod_modEq ..)

/-- Direct mode goes to the base, Vectored mode of an interrupt 4 times the code above it. -/
theorem wrap_vector (c : Config) (tvec : Word) (irq : Bool) (code : Nat) :
    wrap c (vector c tvec irq code) =
      ofXlen c (tvec.toNat / 4 * 4 + if irq ∧ tvec.toNat % 4 = 1 then 4 * code else 0) := by
  have base : StandsFor c (tvec &&& ~~~3) (tvec.toNat / 4 * 4) :=
    standsFor_of_toNat (n := tvec.toNat / 4 * 4) (toNat_and_not_fieldMask tvec 2)
  have vectored : tvec.extractLsb' 0 2 = 1 ∧ irq = true ↔ irq = true ∧ tvec.toNat % 4 = 1 := by
    rw [← BitVec.toNat_inj, BitVec.extractLsb'_toNat, Nat.shiftRight_zero, and_comm]
    rfl
  rw [vector]
  by_cases h : irq = true ∧ tvec.toNat % 4 = 1
  · rw [if_pos (vectored.2 h), if_pos h, wrap_wrap]
    exact wrap_of_standsFor (base.add (standsFor_ofNat c _))
  · rw [if_neg (mt vectored.1 h), if_neg h, wrap_wrap, Nat.cast_zero, add_zero]
    exact wrap_of_standsFor base

/-! ### Destination M -/

/-- mstatus after a trap into M-mode: MIE and the mode go down the stack, MPV and GVA are written with the hypervisor
extension. -/
def enteredMstatus (s : State) (gva : Bool) : Word :=
  let w := setField (setBit (setBit s.m.mstatus MPIE (mstatusBit s MIE)) MIE false) MPP 2 s.priv.code
  if s.cfg.hasH then setBit (setBit w MPV s.virt) GVA gva else w

theorem enterM_eq (s : State) (cause tval tval2 tinst : Word) (gva : Bool) :
    enterM s cause tval tval2 tinst gva = { s with
      priv := .M
      virt := false
      m := { s.m with
        mstatus := enteredMstatus s gva
        mepc := s.pc
        mcause := cause
        mtval := tval
        mtval2 := if s.cfg.hasH then tval2 else s.m.mtval2
        mtinst := if s.cfg.hasH then tinst else s.m.mtinst } } := by
  cases hyp : s.cfg.hasH <;>
    simp [enterM, enteredMstatus, setMode, saveM2, setMpp, setMstatus, saveM, hyp]

theorem getLsbD_enteredMstatus (s : State) (gva : Bool) {k : Nat} (h : k ≠ MPP ∧ k ≠ MPP + 1) :
    (enteredMstatus s gva).getLsbD k =
      if s.cfg.hasH ∧ k = GVA then gva
      else if s.cfg.hasH ∧ k = MPV then s.virt
      else if k = MIE then false
      else if k = MPIE then mstatusBit s MIE
      else s.m.mstatus.getLsbD k := by
  unfold enteredMstatus
  cases s.cfg.hasH <;>
    simp (disch := decide) only [getLsbD_setBit, getLsbD_setMppField _ _ h, if_true, if_false, Bool.false_eq_true,
      true_and, false_and]

theorem mppField_enteredMstatus (s : State) (gva : Bool) : getField (enteredMstatus s gva) MPP 2 = s.priv.code := by
  unfold enteredMstatus
  cases s.cfg.hasH
  · exact mppField_setField ..
  · rw [if_pos rfl, mppField_setBit _ _ (by decide), mppField_setBit _ _ (by decide), mppField_setField]

section
variable {s t : State} {gva : Bool} (entered : t.m.mstatus = enteredMstatus s gva)
include entered

theorem interruptStack_of_entered : mstatusBit t MPIE = mstatusBit s MIE ∧ mstatusBit t MIE = false := by
  rw [mstatusBit_eq t, mstatusBit_eq t, entered, getLsbD_enteredMstatus s gva (by decide),
    getLsbD_enteredMstatus s gva (by decide)]
  simp [statusBit, MPIE, MIE, MPV, GVA]

theorem mpp_of_entered : mpp t = s.priv := by
  rw [mpp, mppField_mstatusRead, entered, mppField_enteredMstatus, ofCode_code]

theorem guestBits_of_entered (cfg : t.cfg = s.cfg) (hyp : s.cfg.hasH = true) :
    mstatusBit t MPV = s.virt ∧ mstatusBit t GVA = gva := by
  rw [mstatusBit_eq, mstatusBit_eq, cfg, entered, getLsbD_enteredMstatus s gva (by decide),
    getLsbD_enteredMstatus s gva (by decide)]
  simp [statusBit, MPV, GVA, hyp]

end

theorem takeTrap_machine (s : State) (irq : Bool) (code : Nat) (tval tval2 tinst : Word) (gva : Bool) :
    takeTrap s irq code .M tval tval2 tinst gva = { s with
      pc := wrap s.cfg (vector s.cfg s.m.mtvec irq code)
      priv := .M
      virt := false
      m := { s.m with
        mstatus := enteredMstatus s gva
        mepc := s.pc
        mcause := causeWord s.cfg irq code
        mtval := tval
        mtval2 := if s.cfg.hasH then tval2 else s.m.mtval2
        mtinst := if s.cfg.hasH then tinst else s.m.mtinst } } := by
  rw [takeTrap, enterM_eq]
  rfl

/-- Settles O36. -/
theorem trapsIntoMachineModeSave : Obligations.TrapsIntoMachineModeSave := by
  unfold Obligations.TrapsIntoMachineModeSave
  intro s irq code tval tval2 tinst gva small
  rw [takeTrap_machine]
  intro t
  obtain ⟨mpie, mie⟩ := interruptStack_of_entered (t := t) (s := s) rfl
  refine ⟨rfl, toNat_causeWord s.cfg irq (code_fits s.cfg small), rfl, mpie, mie, mpp_of_entered (t := t) rfl,
    fun hyp => ?_, fun k h1 h2 h3 h4 h5 h6 => ?_, wrap_vector .., rfl⟩
  · obtain ⟨mpv, gvaBit⟩ := guestBits_of_entered (t := t) (s := s) rfl rfl hyp
    exact ⟨mpv, gvaBit, if_pos hyp, if_pos hyp⟩
  · exact (getLsbD_enteredMstatus s gva ⟨h3, h4⟩).trans (by simp [h1, h2, h5, h6])

/-! ### Destination S -/

/-- mstatus after a trap into S-mode. -/
def enteredSstatus (s : State) : Word :=
  setBit (setBit (setBit s.m.mstatus SPIE (mstatusBit s SIE)) SIE false) SPP (s.priv == .S)

/-- hstatus after a trap into HS-mode: SPVP follows SPP where V was 1. -/
def enteredHstatus (s : State) (gva : Bool) : Word :=
  let w := setBit (setBit s.h.hstatus SPV s.virt) HGVA gva
  if s.virt then setBit w SPVP (s.priv == .S) else w

theorem takeTrap_supervisor (s : State) (irq : Bool) (code : Nat) (tval tval2 tinst : Word) (gva : Bool) :
    takeTrap s irq code .S tval tval2 tinst gva = { s with
      pc := wrap s.cfg (vector s.cfg s.sv.stvec irq code)
      priv := .S
      virt := false
      m := { s.m with mstatus := enteredSstatus s }
      sv := { s.sv with sepc := s.pc, scause := causeWord s.cfg irq code, stval := tval }
      h := if s.cfg.hasH then { s.h with hstatus := enteredHstatus s gva, htval := tval2, htinst := tinst } else s.h } := by
  cases hyp : s.cfg.hasH <;> cases virt : s.virt <;>
    simp [takeTrap, enterS, setPc, setMode, saveS2, saveS, setHstatus, setMstatus, enteredSstatus, enteredHstatus, hyp, virt]

theorem getLsbD_enteredSstatus (s : State) (k : Nat) :
    (enteredSstatus s).getLsbD k =
      if k = SPP then s.priv == .S
      else if k = SIE then false
      else if k = SPIE then mstatusBit s SIE
      else s.m.mstatus.getLsbD k := by
  simp (disch := decide) only [enteredSstatus, getLsbD_setBit]

theorem getLsbD_enteredHstatus (s : State) (gva : Bool) (k : Nat) :
    (enteredHstatus s gva).getLsbD k =
      if s.virt ∧ k = SPVP then s.priv == .S
      else if k = HGVA then gva
      else if k = SPV then s.virt
      else s.h.hstatus.getLsbD k := by
  unfold enteredHstatus
  cases s.virt <;>
    simp (disch := decide) only [getLsbD_setBit, if_true, if_false, Bool.false_eq_true, true_and, false_and]

theorem supervisorStack_of_entered {s t : State} (hasS : s.cfg.hasS = true) (cfg : t.cfg = s.cfg)
    (entered : t.m.mstatus = enteredSstatus s) :
    mstatusBit t SPIE = mstatusBit s SIE ∧ mstatusBit t SIE = false ∧ mstatusBit t SPP = decide (s.priv = .S) := by
  simp only [mstatusBit_eq t, cfg, entered, getLsbD_enteredSstatus]
  simp [statusBit, SPIE, SIE, SPP, hasS, Bool.beq_eq_decide_eq]

theorem hypervisorBits_of_entered {s t : State} {gva : Bool} (entered : t.h.hstatus = enteredHstatus s gva) :
    hstatusBit t SPV = s.virt ∧ hstatusBit t HGVA = gva ∧
      hstatusBit t SPVP = (if s.virt then decide (s.priv = .S) else hstatusBit s SPVP) := by
  simp only [hstatusBit_of_writable (s := t) (.inr (.inl rfl)), hstatusBit_of_writable (s := t) (.inl rfl),
    hstatusBit_of_writable (k := SPVP) (.inr (.inr rfl)), entered, getLsbD_enteredHstatus]
  cases s.virt <;> simp [SPV, HGVA, SPVP, Bool.beq_eq_decide_eq]

/-- Settles O37. -/
theorem trapsIntoSupervisorModeSave : Obligations.TrapsIntoSupervisorModeSave := by
  unfold Obligations.TrapsIntoSupervisorModeSave
  intro s irq code tval tval2 tinst gva small hasS
  rw [takeTrap_supervisor]
  intro t
  obtain ⟨spie, sie, spp⟩ := supervisorStack_of_entered (t := t) hasS rfl rfl
  refine ⟨rfl, toNat_causeWord s.cfg irq (code_fits s.cfg small), rfl, spie, sie, spp, fun hyp => ?_,
    fun k h1 h2 h3 => ?_, fun none => ?_, fun k h1 h2 h3 => ?_, wrap_vector .., ?_⟩
  · have written : t.h = { s.h with hstatus := enteredHstatus s gva, htval := tval2, htinst := tinst } := if_pos hyp
    obtain ⟨spv, gvaBit, spvp⟩ := hypervisorBits_of_entered (s := s) (t := t) (gva := gva) (by rw [written])
    exact ⟨spv, gvaBit, spvp, by rw [written], by rw [written]⟩
  · cases hyp : s.cfg.hasH <;> simp [t, hyp, getLsbD_enteredHstatus, h1, h2, h3]
  · simp [t, none]
  · exact (getLsbD_enteredSstatus s k).trans (by simp [h1, h2, h3])
  · cases hyp : s.cfg.hasH <;> simp [t, hyp]

/-! ### Destination VS -/

/-- vsstatus after a trap into VS-mode. -/
def enteredVsstatus (s : State) : Word :=
  setBit (setBit (setBit s.vs.vsstatus SPIE (vsstatusBit s SIE)) SIE false) SPP (s.priv == .S)

theorem takeTrap_guest (s : State) (irq : Bool) (code : Nat) (tval tval2 tinst : Word) (gva : Bool) :
    takeTrap s irq code .VS tval tval2 tinst gva = { s with
      pc := wrap s.cfg (vector s.cfg s.vs.vstvec irq (if irq then code - 1 else code))
      priv := .S
      vs := { s.vs with
        vsstatus := enteredVsstatus s
        vsepc := s.pc
        vscause := causeWord s.cfg irq (if irq then code - 1 else code)
        vstval := tval } } := by
  simp [takeTrap, enterVS, setPc, setMode, setVsstatus, saveVS, enteredVsstatus]

theorem getLsbD_enteredVsstatus (s : State) (k : Nat) :
    (enteredVsstatus s).getLsbD k =
      if k = SPP then s.priv == .S
      else if k = SIE then false
      else if k = SPIE then vsstatusBit s SIE
      else s.vs.vsstatus.getLsbD k := by
  simp (disch := decide) only [enteredVsstatus, getLsbD_setBit]

theorem guestStack_of_entered {s t : State} (entered : t.vs.vsstatus = enteredVsstatus s) :
    vsstatusBit t SPIE = vsstatusBit s SIE ∧ vsstatusBit t SIE = false ∧ vsstatusBit t SPP = decide (s.priv = .S) := by
  simp only [vsstatusBit_of_writable (s := t) (.inr (.inl rfl)), vsstatusBit_of_writable (s := t) (.inl rfl),
    vsstatusBit_of_writable (s := t) (.inr (.inr rfl)), entered, getLsbD_enteredVsstatus]
  simp [SPIE, SIE, SPP, Bool.beq_eq_decide_eq]

/-- Settles O38. -/
theorem trapsIntoVirtualSupervisorModeSave : Obligations.TrapsIntoVirtualSupervisorModeSave := by
  unfold Obligations.TrapsIntoVirtualSupervisorModeSave
  intro s irq code tval tval2 tinst gva _ small
  rw [takeTrap_guest]
  intro t c
  have small : c < 32 := lt_of_le_of_lt (by grind) small
  obtain ⟨spie, sie, spp⟩ := guestStack_of_entered (s := s) (t := t) rfl
  exact ⟨rfl, toNat_causeWord s.cfg irq (code_fits s.cfg small), rfl, spie, sie, spp,
    fun k h1 h2 h3 => (getLsbD_enteredVsstatus s k).trans (by simp [h1, h2, h3]), wrap_vector .., rfl⟩

/-! ### NMI -/

/-- The step at an asserted NMI: the entry, then time passes (R870). -/
theorem step_nmi {s : State} (quiet : s.inputs = []) (asserted : s.plat.nmi = true) :
    step s = .next (tick s (takeNmi s)) := by
  simp [step, consume, boundaryTrap, quiet, asserted]

theorem takeNmi_m (s : State) :
    (takeNmi s).m = { s.m with
      mstatus := enteredMstatus s false
      mepc := s.pc
      mcause := causeWord s.cfg true s.cfg.nmiCause
      mtval := 0
      mtval2 := if s.cfg.hasH then 0 else s.m.mtval2
      mtinst := if s.cfg.hasH then 0 else s.m.mtinst } := by
  rw [takeNmi, enterM_eq]
  rfl

/-- Settles O43. -/
theorem nmiIsTakenFirst : Obligations.NmiIsTakenFirst := by
  unfold Obligations.NmiIsTakenFirst
  intro s quiet asserted legal
  have saved := takeNmi_m s
  have stack : (tick s (takeNmi s)).m.mstatus = enteredMstatus s false := congrArg MCsrs.mstatus saved
  obtain ⟨mpie, mie⟩ := interruptStack_of_entered stack
  refine ⟨_, step_nmi quiet asserted, by simp [takeNmi], by simp [takeNmi], by simp [takeNmi], congrArg MCsrs.mepc saved,
    ?_, congrArg MCsrs.mtval saved, mie, mpie, mpp_of_entered stack, rfl, rX_congr (by simp [takeNmi]) (by simp [takeNmi]),
    fun a => by simp [takeNmi]⟩
  exact (congrArg (fun m => m.mcause.toNat) saved).trans
    ((toNat_causeWord s.cfg true legal).trans (Nat.add_comm ..))

end Sys2Proof.Machine
end

section
/-! PROOF. Where an exception goes and what its registers receive (60_exceptions R860 to R862, 61_hypervisor_traps R905 to R914);
ECALL and EBREAK (46_privileged R740 to R742). -/

namespace Sys2Proof.Machine

/-! ### Destinations -/

/-- Settles O39. -/
theorem exceptionsGoWhereDelegated : Obligations.ExceptionsGoWhereDelegated := by
  unfold Obligations.ExceptionsGoWhereDelegated
  intro s code delegated again
  have machine : ¬ delegated → excDest s code = .M := fun h => by
    refine if_pos ?_
    simp only [delegated, not_and_or, Bool.not_eq_true, not_not] at h
    obtain h | h | h := h <;> simp [h]
  have below (h : delegated) : excDest s code = if s.cfg.hasH && s.virt && (hedelegRead s).getLsbD code then .VS else .S := by
    refine if_neg ?_
    obtain ⟨mode, hasS, bit⟩ := h
    simp [mode, hasS, bit]
  refine ⟨machine, fun h k => ?_, fun h k => ?_, ?_, fun k hk => ?_⟩
  · rw [below h, if_pos (by simpa [again, and_assoc] using k)]
  · rw [below h, if_neg (by simpa [again, and_assoc] using k)]
  · rw [medelegRead, BitVec.getLsbD_and, getLsbD_medelegMask]
    simp
  · rw [hedelegRead, BitVec.getLsbD_and, getLsbD_hedelegMask]
    fin_cases hk <;> simp

/-! ### The transformed instruction (61_hypervisor_traps R911) -/

theorem f7_pack (r : Raw) : (pack r).extractLsb' 25 7 = r.f7 := congrArg Raw.f7 (unpack_pack r)
theorem rs2_pack (r : Raw) : (pack r).extractLsb' 20 5 = r.rs2 := congrArg Raw.rs2 (unpack_pack r)
theorem rs1_pack (r : Raw) : (pack r).extractLsb' 15 5 = r.rs1 := congrArg Raw.rs1 (unpack_pack r)
theorem f3_pack (r : Raw) : (pack r).extractLsb' 12 3 = r.f3 := congrArg Raw.f3 (unpack_pack r)
theorem rd_pack (r : Raw) : (pack r).extractLsb' 7 5 = r.rd := congrArg Raw.rd (unpack_pack r)
theorem op_pack (r : Raw) : (pack r).extractLsb' 0 7 = r.op := congrArg Raw.op (unpack_pack r)

theorem pack_and (r m : Raw) : pack r &&& pack m =
    pack ⟨r.f7 &&& m.f7, r.rs2 &&& m.rs2, r.rs1 &&& m.rs1, r.f3 &&& m.f3, r.rd &&& m.rd, r.op &&& m.op⟩ := by
  rw [← pack_unpack (pack r &&& pack m)]
  simp only [unpack, BitVec.extractLsb'_and, f7_pack, rs2_pack, rs1_pack, f3_pack, rd_pack, op_pack]

theorem pack_or (r m : Raw) : pack r ||| pack m =
    pack ⟨r.f7 ||| m.f7, r.rs2 ||| m.rs2, r.rs1 ||| m.rs1, r.f3 ||| m.f3, r.rd ||| m.rd, r.op ||| m.op⟩ := by
  rw [← pack_unpack (pack r ||| pack m)]
  simp only [unpack, BitVec.extractLsb'_or, f7_pack, rs2_pack, rs1_pack, f3_pack, rd_pack, op_pack]

/-- The fields of the transformed instruction: the immediate is zero and the offset stands in place of rs1. -/
def transformed (r : Raw) (off : Reg) : Raw :=
  if r.op = 0b0000011#7 then { r with f7 := 0#7, rs2 := 0#5, rs1 := off }
  else if r.op = 0b0100011#7 then { r with f7 := 0#7, rs1 := off, rd := 0#5 }
  else { r with rs1 := off }

/-- A word masked field by field, with the offset in place of rs1. -/
theorem pack_masked (r m : Raw) (off : Reg) : pack r &&& pack m ||| pack ⟨0#7, 0#5, off, 0#3, 0#5, 0#7⟩ =
    pack ⟨r.f7 &&& m.f7, r.rs2 &&& m.rs2, r.rs1 &&& m.rs1 ||| off, r.f3 &&& m.f3, r.rd &&& m.rd, r.op &&& m.op⟩ := by
  simp only [pack_and, pack_or, BitVec.or_zero]

theorem transform_pack (r : Raw) (off : Reg) : transform (pack r) off.toNat = pack (transformed r off) := by
  have offset : BitVec.ofNat 32 (off.toNat % 32) <<< 15 = pack ⟨0#7, 0#5, off, 0#3, 0#5, 0#7⟩ := by
    revert off
    decide
  have load_mask : (0x00007FFF : Inst) = pack ⟨0#7, 0#5, 0#5, .allOnes 3, .allOnes 5, .allOnes 7⟩ := rfl
  have store_mask : (0x01F0707F : Inst) = pack ⟨0#7, .allOnes 5, 0#5, .allOnes 3, 0#5, .allOnes 7⟩ := rfl
  have other_mask : (0xFFF07FFF : Inst) = pack ⟨.allOnes 7, .allOnes 5, 0#5, .allOnes 3, .allOnes 5, .allOnes 7⟩ := rfl
  unfold transform transformed
  rw [op_pack, offset]
  dsimp only
  split
  next load => rw [load_mask, pack_masked, if_pos load]; simp only [BitVec.and_allOnes, BitVec.and_zero, BitVec.zero_or]
  next store =>
    rw [store_mask, pack_masked, if_neg (by rw [store]; decide), if_pos store]
    simp only [BitVec.and_allOnes, BitVec.and_zero, BitVec.zero_or]
  next not_load not_store =>
    rw [other_mask, pack_masked, if_neg not_load, if_neg not_store]
    simp only [BitVec.and_allOnes, BitVec.and_zero, BitVec.zero_or]

/-! ### The values a trap's registers receive -/

theorem guestCause_iff (code : Nat) : guestCause code = true ↔ code = 20 ∨ code = 21 ∨ code = 23 := by
  simp [guestCause]

theorem gvaOf_eq (c : Config) (e : Exc) :
    gvaOf c e = (e.gva && c.xtvalMask.getLsbD e.cause && decide (e.cause ∉ [2, 8, 9, 10, 11, 22])) := by
  rw [gvaOf, addressCause, Config.informative, Bool.and_assoc, Bool.and_comm (!_), ← Bool.and_assoc]
  simp

theorem toNat_tval2Of (c : Config) (e : Exc) :
    (tval2Of c e).toNat =
      if (e.cause = 20 ∨ e.cause = 21 ∨ e.cause = 23) ∧ ¬ (e.implicit ≠ none ∧ c.tinstPseudo = false) then
        e.gpa / 4 % 2 ^ c.xlen
      else 0 := by
  have address : (wrap c (BitVec.ofNat 64 (e.gpa / 4))).toNat = e.gpa / 4 % 2 ^ c.xlen := by
    rw [toNat_wrap, BitVec.toNat_ofNat, Nat.mod_mod_of_dvd _ (pow_dvd_pow 2 (xlen_le_64 c))]
  simp only [tval2Of, implicitOf, ← guestCause_iff]
  obtain guest | guest := Bool.eq_false_or_eq_true (guestCause e.cause)
  · obtain explicit | ⟨write, implicit⟩ := Option.eq_none_or_eq_some e.implicit
    · simp [guest, explicit, address]
    · cases c.tinstPseudo <;> simp [guest, implicit, address]
  · simp [guest]

theorem tinstOf_eq (c : Config) (inst : Inst) (e : Exc) :
    tinstOf c inst e =
      if (e.cause = 20 ∨ e.cause = 21 ∨ e.cause = 23) ∧ e.implicit ≠ none then
        if c.tinstPseudo = false then 0
        else if e.implicit = some true then (if c.rv64 then 0x3020 else 0x2020)
        else (if c.rv64 then 0x3000 else 0x2000)
      else if e.cause ∈ [4, 5, 6, 7, 13, 15, 21, 23] ∧ c.tinstTransform = true then (transform inst e.off).setWidth 64
      else 0 := by
  have memory : memoryCause e.cause = decide (e.cause ∈ [4, 5, 6, 7, 13, 15, 21, 23]) := List.contains_eq_mem ..
  simp only [tinstOf, implicitOf, ← guestCause_iff, memory]
  obtain guest | guest := Bool.eq_false_or_eq_true (guestCause e.cause)
  · obtain explicit | ⟨write, implicit⟩ := Option.eq_none_or_eq_some e.implicit
    · simp [guest, explicit]
    · cases write <;> cases c.rv64 <;> cases c.tinstPseudo <;> simp [guest, implicit, maskIf]
  · simp [guest]

theorem raise_eq {s : State} {e : Exc} {d : Dest} (dest : excDest s e.cause = d) (inst : Inst) :
    raise s inst e =
      takeTrap s false e.cause d (tvalOf s.cfg e) (tval2Of s.cfg e) (tinstOf s.cfg inst e) (gvaOf s.cfg e) := by
  rw [raise, dest]

/-- Settles O40: `takeTrap` at each destination with the values of the exception; the words of the memory instructions, by
their fields. -/
theorem raiseFillsTheTrapRegisters : Obligations.RaiseFillsTheTrapRegisters := by
  unfold Obligations.RaiseFillsTheTrapRegisters
  refine ⟨fun s inst e small => ?_, fun rd rs1 rs2 off imm aq rl i j form => ?_⟩
  · intro t informative value gva guestFault noPseudo gpa tinst
    have cause : (causeWord s.cfg false e.cause).toNat = e.cause := toNat_causeWord s.cfg false (code_fits s.cfg small)
    have address : (tval2Of s.cfg e).toNat = gpa := toNat_tval2Of ..
    have written : gvaOf s.cfg e = gva := gvaOf_eq ..
    have instruction : tinstOf s.cfg inst e = tinst := tinstOf_eq ..
    refine ⟨fun dest => ?_, fun dest => ?_, fun dest => ?_⟩
    · have entered : t = _ := (raise_eq dest inst).trans (takeTrap_machine ..)
      refine ⟨by rw [entered], by rw [entered]; exact cause, by rw [entered], by rw [entered]; rfl, fun hyp => ?_⟩
      obtain ⟨-, gvaBit⟩ := guestBits_of_entered (s := s) (t := t) (by rw [entered]) (by rw [entered]) hyp
      refine ⟨?_, ?_, gvaBit.trans written⟩
      · rw [entered, ← address]
        exact congrArg BitVec.toNat (if_pos hyp)
      · rw [entered, ← instruction]
        exact if_pos hyp
    · have entered : t = _ := (raise_eq dest inst).trans (takeTrap_supervisor ..)
      refine ⟨by rw [entered], by rw [entered], by rw [entered]; exact cause, by rw [entered], by rw [entered]; rfl,
        fun hyp => ?_⟩
      have hyper : t.h = { s.h with hstatus := enteredHstatus s (gvaOf s.cfg e), htval := tval2Of s.cfg e,
                                    htinst := tinstOf s.cfg inst e } := by
        rw [entered]
        exact if_pos hyp
      obtain ⟨-, gvaBit, -⟩ := hypervisorBits_of_entered (s := s) (t := t) (gva := gvaOf s.cfg e) (by rw [hyper])
      exact ⟨by rw [hyper]; exact address, by rw [hyper]; exact instruction, gvaBit.trans written⟩
    · have entered : t = _ := (raise_eq dest inst).trans (takeTrap_guest ..)
      exact ⟨by rw [entered], by rw [entered], by rw [entered]; exact cause, by rw [entered], by rw [entered]; rfl,
        by rw [entered]⟩
  · have fields : transformed (encodeRaw i) off = encodeRaw j := by
      casesm* _ ∨ _, _ ∧ _ <;> subst_vars <;> rfl
    rw [encode, transform_pack, fields, encode]

/-! ### ECALL and EBREAK -/

/-- What a trap saves is never minstret. -/
theorem takeTrap_minstret (s : State) (irq : Bool) (code : Nat) (d : Dest) (tval tval2 tinst : Word) (gva : Bool) :
    (takeTrap s irq code d tval tval2 tinst gva).m.minstret = s.m.minstret := by
  cases d
  · rw [takeTrap_machine]
  · rw [takeTrap_supervisor]
  · rw [takeTrap_guest]

/-- Settles O28. -/
theorem ecallAndEbreakTrap : Obligations.EcallAndEbreakTrap := by
  unfold Obligations.EcallAndEbreakTrap
  intro s code
  have cause : ecallCause s = code := by
    simp only [ecallCause, code]
    cases s.priv <;> simp
  have ecall : traps .ecall s (instrExc code 0 false) := cause ▸ run_trap (i := .ecall) rfl rfl
  have ebreak : traps .ebreak s (instrExc 3 s.pc s.virt) := run_trap (i := .ebreak) rfl rfl
  refine ⟨ecall, ebreak, fun i t form next => ?_⟩
  obtain ⟨e, raised⟩ : ∃ e, t = raise s (encode i) e := by
    obtain rfl | rfl := form
    · exact ⟨_, Host.Outcome.next.inj (next.symm.trans ecall)⟩
    · exact ⟨_, Host.Outcome.next.inj (next.symm.trans ebreak)⟩
  rw [raised]
  exact ⟨takeTrap_minstret .., rX_congr (raise_regs ..) (raise_cfg ..), fun a => by rw [raise_mem]⟩

end Sys2Proof.Machine
end

section
/-! PROOF. Reset, the order of interrupts at a boundary, and the step with nothing pending (60_exceptions R841, R854, R855;
70_reset_and_hazards R930, R931). -/

namespace Sys2Proof.Machine

/-! ### Reset -/

theorem getField_eq_zero {w : Word} {lo len : Nat} (clear : ∀ k < len, w.getLsbD (lo + k) = false) :
    getField w lo len = 0 := by
  have same : getField w lo len = getField 0#64 lo len :=
    getField_congr fun k hk => by rw [clear k hk, BitVec.getLsbD_zero]
  simpa [getField] using same

theorem atpMode_clearMode (c : Config) (v mask : Word) : atpMode c (clearMode c v &&& mask) = 0 := by
  unfold atpMode clearMode
  split <;>
  · refine getField_eq_zero fun k hk => ?_
    rw [BitVec.getLsbD_and, BitVec.getLsbD_and, BitVec.getLsbD_not, getLsbD_fieldMask]
    grind

theorem atpMode_zero (c : Config) (mask : Word) : atpMode c (0#64 &&& mask) = 0 := by
  rw [BitVec.zero_and]
  unfold atpMode
  split <;> rfl

/-- A and L of a configuration byte after the reset of its entry (21_pmp R419). -/
theorem pmp_fields_reset (b : BitVec 8) : pmpA (b &&& 0x67) = 0 ∧ pmpL (b &&& 0x67) = false := by
  revert b
  decide

/-- The bits of mstatus that R930 clears. -/
theorem mstatusBits_clear {s : State} {k : Nat} (field : k = MIE ∨ k = MPRV ∨ (k = MBE ∧ s.cfg.mbe ≠ .one))
    (stored : s.m.mstatus.getLsbD k = false) : mstatusBit s k = false := by
  rw [mstatusBit_eq, stored]
  obtain rfl | rfl | ⟨rfl, notOne⟩ := field
  · rfl
  · exact Bool.and_false _
  · change endianBit s.cfg.mbe false = false
    cases mbe : s.cfg.mbe
    exacts [rfl, absurd mbe notOne, rfl]

theorem getLsbD_resetMpp (c : Config) {k : Nat} (h : k = MIE ∨ k = MPRV ∨ k = MBE) : (resetMpp c).getLsbD k = false := by
  unfold resetMpp
  obtain rfl | rfl | rfl := h <;> split <;> decide

theorem getLsbD_resetHart_mstatus (s : State) {k : Nat} (h : k = MIE ∨ k = MPRV ∨ k = MBE) :
    (resetHart s).m.mstatus.getLsbD k = false := by
  have bits : (resetHart s).m.mstatus = setBit (setBit (setBit s.m.mstatus MIE false) MPRV false) MBE false := rfl
  simp (disch := decide) only [bits, getLsbD_setBit]
  grind

/-- Settles O54. -/
theorem resetState : Obligations.ResetState := by
  unfold Obligations.ResetState
  rintro s t (rfl | rfl)
  · have bit {k : Nat} (h : k = MIE ∨ k = MPRV ∨ k = MBE) := getLsbD_resetMpp s.cfg h
    refine ⟨rfl, rfl, rfl, mstatusBits_clear (.inl rfl) (bit (.inl rfl)),
      mstatusBits_clear (.inr (.inl rfl)) (bit (.inr (.inl rfl))),
      fun notOne => mstatusBits_clear (.inr (.inr ⟨rfl, notOne⟩)) (bit (.inr (.inr rfl))), rfl, fun i => ?_,
      atpMode_zero .., atpMode_zero .., rfl, rfl, rfl⟩
    have entry : (State.resetIn s.cfg).pmp.cfg.get i = 0 := Vector.getElem_replicate ..
    rw [entry]
    decide
  · have bit {k : Nat} (h : k = MIE ∨ k = MPRV ∨ k = MBE) := getLsbD_resetHart_mstatus s h
    refine ⟨rfl, rfl, rfl, mstatusBits_clear (.inl rfl) (bit (.inl rfl)),
      mstatusBits_clear (.inr (.inl rfl)) (bit (.inr (.inl rfl))),
      fun notOne => mstatusBits_clear (.inr (.inr ⟨rfl, notOne⟩)) (bit (.inr (.inr rfl))), rfl, fun i => ?_,
      atpMode_clearMode .., atpMode_clearMode .., rfl, rfl, rfl⟩
    have entry : (resetHart s).pmp.cfg.get i = s.pmp.cfg.get i &&& 0x67 := Vector.getElem_map ..
    rw [entry]
    exact pmp_fields_reset _

/-- Settles O55. -/
theorem resetSatisfiesTheInvariant : Obligations.ResetSatisfiesTheInvariant where
  cfg := by decide
  mem := rfl
  x0 := rfl
  width r := by
    have zero : State.reset.regs.get r = 0 := Vector.getElem_replicate ..
    rw [zero]
    exact wrap_zero _
  pcAligned := rfl
  pcWidth := rfl
  mode := ⟨nofun, nofun, nofun⟩
  mpp := rfl

/-! ### Interrupts -/

theorem getLsbD_machineInterrupts (k : Nat) : (0x888 : Word).getLsbD k = decide (k ∈ [3, 7, 11]) :=
  getLsbD_of_bits (by decide) (by decide) k

theorem getLsbD_mieMask (c : Config) (k : Nat) :
    (mieMask c).getLsbD k = (decide (k ∈ [3, 7, 11]) || c.hasS && decide (k ∈ [1, 5, 9]) ||
      c.hasH && (decide (k ∈ [2, 6, 10]) || decide (k = 12) && c.geiLen != 0)) := by
  have sgei : (0x1000 : Word).getLsbD k = decide (k = 12) := getLsbD_bitMask (i := 12) (by decide) k
  simp only [mieMask, BitVec.getLsbD_or, getLsbD_maskIf, getLsbD_machineInterrupts, getLsbD_sInterrupts,
    getLsbD_vsInterrupts, sgei]
  grind

theorem getLsbD_mieRead (s : State) (k : Nat) :
    (mieRead s).getLsbD k = (s.m.mie.getLsbD k && (mieMask s.cfg).getLsbD k) := BitVec.getLsbD_and

theorem getLsbD_midelegRead (s : State) (k : Nat) :
    (midelegRead s).getLsbD k =
      (s.m.mideleg.getLsbD k && (midelegMask s.cfg).getLsbD k || (midelegOnes s.cfg).getLsbD k) := by
  rw [midelegRead, BitVec.getLsbD_or, BitVec.getLsbD_and]

theorem getLsbD_hidelegRead (s : State) (k : Nat) :
    (hidelegRead s).getLsbD k = (s.h.hideleg.getLsbD k && decide (k ∈ [2, 6, 10])) := by
  rw [hidelegRead, BitVec.getLsbD_and, hidelegMask, getLsbD_vsInterrupts]

/-- Interrupt bits are low ones, so the registers read whole at either width. -/
theorem getLsbD_csrRead_mie (s : State) (k : Nat) : (csrRead s .mie).getLsbD k = (mieRead s).getLsbD k :=
  getLsbD_wrap_low s.cfg fun set => by
    rw [getLsbD_mieRead, getLsbD_mieMask] at set
    grind

theorem getLsbD_csrRead_mideleg (s : State) (k : Nat) : (csrRead s .mideleg).getLsbD k = (midelegRead s).getLsbD k :=
  getLsbD_wrap_low s.cfg fun set => by
    rw [getLsbD_midelegRead, getLsbD_midelegMask, getLsbD_midelegOnes] at set
    grind

theorem getLsbD_csrRead_hideleg (s : State) (k : Nat) : (csrRead s .hideleg).getLsbD k = (hidelegRead s).getLsbD k :=
  getLsbD_wrap_low s.cfg fun set => by
    rw [getLsbD_hidelegRead] at set
    grind

/-- The interrupts with their destinations, in the order of R855. -/
def interruptOrder : List (Nat × Dest) :=
  (intOrder .M).map (·, .M) ++ (intOrder .S).map (·, .S) ++ (intOrder .VS).map (·, .VS)

theorem find_order (s : State) (d : Dest) :
    ((intOrder d).map (·, d)).find? (fun e => takeable s e.2 e.1) = ((intOrder d).find? (takeable s d)).map (·, d) := by
  rw [List.find?_map]
  rfl

/-- The interrupt chosen is the first takeable one of the order. -/
theorem pendingInterrupt_eq_find (s : State) :
    pendingInterrupt s = interruptOrder.find? fun e => takeable s e.2 e.1 := by
  rw [interruptOrder, List.find?_append, List.find?_append, find_order, find_order, find_order, pendingInterrupt]
  cases (intOrder .M).find? (takeable s .M) <;> cases (intOrder .S).find? (takeable s .S) <;>
    cases (intOrder .VS).find? (takeable s .VS) <;> rfl

theorem pendingInterrupt_eq_some_iff (s : State) (i : Nat) (d : Dest) :
    pendingInterrupt s = some (i, d) ↔
      ∃ before later, interruptOrder = before ++ (i, d) :: later ∧ takeable s d i = true ∧
        ∀ e ∈ before, takeable s e.2 e.1 = false := by
  rw [pendingInterrupt_eq_find, List.find?_eq_some_iff_append]
  simp only [Bool.not_eq_true']
  constructor
  · rintro ⟨first, before, later, order, none⟩
    exact ⟨before, later, order, first, none⟩
  · rintro ⟨before, later, order, first, none⟩
    exact ⟨first, before, later, order, none⟩

/-- The condition of R854 for each destination. -/
theorem takeable_machine_iff (s : State) (i : Nat) :
    takeable s .M i = true ↔ ((csrRead s .mip).getLsbD i = true ∧ (csrRead s .mie).getLsbD i = true) ∧
      ¬ (s.cfg.hasS = true ∧ (csrRead s .mideleg).getLsbD i = true) ∧ (s.priv ≠ .M ∨ mstatusBit s MIE = true) := by
  rw [getLsbD_csrRead_mip, getLsbD_csrRead_mie, getLsbD_csrRead_mideleg]
  simp only [takeable, Bool.and_eq_true, Bool.or_eq_true, Bool.not_eq_true', bne_iff_ne]
  grind

theorem takeable_supervisor_iff (s : State) (i : Nat) :
    takeable s .S i = true ↔ s.cfg.hasS = true ∧
      ((csrRead s .mip).getLsbD i = true ∧ (csrRead s .mie).getLsbD i = true) ∧ (csrRead s .mideleg).getLsbD i = true ∧
      ¬ (s.cfg.hasH = true ∧ (csrRead s .hideleg).getLsbD i = true) ∧
      (s.priv = .U ∨ (s.priv = .S ∧ (s.virt = true ∨ mstatusBit s SIE = true))) := by
  rw [getLsbD_csrRead_mip, getLsbD_csrRead_mie, getLsbD_csrRead_mideleg, getLsbD_csrRead_hideleg]
  cases priv : s.priv <;> simp [takeable, priv] <;> grind

theorem takeable_guest_iff (s : State) (i : Nat) :
    takeable s .VS i = true ↔ s.cfg.hasH = true ∧
      ((csrRead s .mip).getLsbD i = true ∧ (csrRead s .mie).getLsbD i = true) ∧ (csrRead s .mideleg).getLsbD i = true ∧
      (csrRead s .hideleg).getLsbD i = true ∧ s.virt = true ∧
      (s.priv = .U ∨ (s.priv = .S ∧ vsstatusBit s SIE = true)) := by
  rw [getLsbD_csrRead_mip, getLsbD_csrRead_mie, getLsbD_csrRead_mideleg, getLsbD_csrRead_hideleg]
  cases priv : s.priv <;> simp [takeable, priv] <;> grind

/-- What M-mode takes goes to M-mode, with MIE set. -/
theorem pendingInterrupt_machine {s : State} (machine : s.priv = .M) {i : Nat} {d : Dest}
    (chosen : pendingInterrupt s = some (i, d)) :
    d = .M ∧ mstatusBit s MIE = true ∧ (csrRead s .mie).getLsbD i = true ∧ (csrRead s .mip).getLsbD i = true ∧
      (s.cfg.hasS = true → (csrRead s .mideleg).getLsbD i = false) := by
  have taken := pendingInterrupt_takeable chosen
  cases d with
  | M =>
    obtain ⟨⟨pending, enabled⟩, kept, mode⟩ := (takeable_machine_iff s i).1 taken
    exact ⟨rfl, mode.resolve_left (not_not.2 machine), enabled, pending,
      fun hasS => Bool.eq_false_iff.2 fun delegated => kept ⟨hasS, delegated⟩⟩
  | S =>
    obtain ⟨-, -, -, -, mode⟩ := (takeable_supervisor_iff s i).1 taken
    simp [machine] at mode
  | VS =>
    obtain ⟨-, -, -, -, -, mode⟩ := (takeable_guest_iff s i).1 taken
    simp [machine] at mode

/-- Settles O42. -/
theorem interruptsAreTakenInOrder : Obligations.InterruptsAreTakenInOrder := by
  unfold Obligations.InterruptsAreTakenInOrder
  refine ⟨pendingInterrupt_eq_some_iff,
    fun s i => ⟨takeable_machine_iff s i, takeable_supervisor_iff s i, takeable_guest_iff s i⟩,
    fun s machine => ⟨fun disabled => ?_, fun i d => pendingInterrupt_machine machine⟩⟩
  cases chosen : pendingInterrupt s with
  | none => rfl
  | some e =>
    obtain ⟨-, enabled, -⟩ := pendingInterrupt_machine (i := e.1) (d := e.2) machine chosen
    exact absurd (disabled.symm.trans enabled) Bool.false_ne_true

/-! ### The step with nothing pending -/

theorem step_running {s : State} (quiet : s.inputs = []) (none : boundaryTrap s = none) (running : s.stalled = false) :
    step s = after s (runInstr s) := by
  simp [step, consume, wake, quiet, none, running]

/-- Settles O44. -/
theorem stepRunsTheDecodedInstruction : Obligations.StepRunsTheDecodedInstruction := by
  unfold Obligations.StepRunsTheDecodedInstruction
  intro s s1 w quiet none running
  rw [step_running quiet none running]
  refine ⟨fun fetched => ⟨fun i decoded => ?_, fun undecoded => ?_⟩, fun e refused => ?_⟩
  · simp only [runInstr, fetched, decoded]
  · simp only [runInstr, fetched, undecoded, after]
  · simp only [runInstr, refused, after]

end Sys2Proof.Machine
end

section
/-! PROOF. The views of mip and mie, on reads and on writes (60_exceptions R851 to R853; 12_csr_supervisor R214;
13_csr_hypervisor R268 to R274, R304, R313, R314). -/

namespace Sys2Proof.Machine

theorem getLsbD_bit1 (k : Nat) : (2 : Word).getLsbD k = decide (k = 1) := getLsbD_bitMask (i := 1) (by decide) k

theorem getLsbD_bit2 (k : Nat) : (4 : Word).getLsbD k = decide (k = 2) := getLsbD_bitMask (i := 2) (by decide) k

/-- The VS-level interrupts and SGEI, which hip and hie show (R269). -/
theorem getLsbD_hInterrupts (k : Nat) : (0x1444 : Word).getLsbD k = decide (k ∈ [2, 6, 10, 12]) :=
  getLsbD_of_bits (by decide) (by decide) k

theorem getLsbD_mipRead (s : State) (k : Nat) : (mipRead s).getLsbD k = mipBit s k := by
  rw [mipRead, getLsbD_foldr_bits _ (by decide)]
  by_cases known : k ∈ [1, 2, 3, 5, 6, 7, 9, 10, 11, 12]
  · rw [decide_eq_true known, Bool.true_and]
  · rw [decide_eq_false known, Bool.false_and, mipBit_of_other s known]

/-! ### Reads -/

/-- sip and sie show what mideleg delegates of the supervisor interrupts. -/
theorem getLsbD_supervisorView (s : State) (w : Word) (k : Nat) :
    (wrap s.cfg (w &&& midelegRead s &&& 0x222)).getLsbD k =
      (decide (k = 1 ∨ k = 5 ∨ k = 9) && (midelegRead s).getLsbD k && w.getLsbD k) := by
  have bits : (w &&& midelegRead s &&& 0x222).getLsbD k =
      (w.getLsbD k && (midelegRead s).getLsbD k && decide (k ∈ [1, 5, 9])) := by
    rw [BitVec.getLsbD_and, BitVec.getLsbD_and, getLsbD_sInterrupts]
  rw [getLsbD_wrap_low s.cfg fun set => by rw [bits] at set; grind, bits]
  grind

theorem getLsbD_hypervisorView (s : State) (w : Word) (k : Nat) :
    (wrap s.cfg (w &&& 0x1444)).getLsbD k = (decide (k = 2 ∨ k = 6 ∨ k = 10 ∨ k = 12) && w.getLsbD k) := by
  have bits : (w &&& 0x1444).getLsbD k = (w.getLsbD k && decide (k ∈ [2, 6, 10, 12])) := by
    rw [BitVec.getLsbD_and, getLsbD_hInterrupts]
  rw [getLsbD_wrap_low s.cfg fun set => by rw [bits] at set; grind, bits]
  grind

/-- vsip and vsie show, one place lower, what hideleg delegates of the VS-level interrupts. -/
theorem getLsbD_guestView (s : State) (w : Word) (k : Nat) :
    (wrap s.cfg (vsView s w)).getLsbD k =
      (decide (k = 1 ∨ k = 5 ∨ k = 9) && (hidelegRead s).getLsbD (k + 1) && w.getLsbD (k + 1)) := by
  have bits : (vsView s w).getLsbD k = (w.getLsbD (k + 1) && (hidelegRead s).getLsbD (k + 1)) := by
    rw [vsView, BitVec.getLsbD_ushiftRight, BitVec.getLsbD_and, Nat.add_comm]
  have low := getLsbD_hidelegRead s (k + 1)
  rw [getLsbD_wrap_low s.cfg fun set => by rw [bits] at set; grind, bits]
  grind

/-! ### Writes -/

theorem getLsbD_mieRead_setMie (s : State) (mask v : Word) (k : Nat) :
    (mieRead (setMie s mask v)).getLsbD k =
      if mask.getLsbD k = true ∧ (mieMask s.cfg).getLsbD k = true then v.getLsbD k else (mieRead s).getLsbD k := by
  have after : (mieRead (setMie s mask v)).getLsbD k =
      ((merge (mask &&& mieMask s.cfg) s.m.mie v).getLsbD k && (mieMask s.cfg).getLsbD k) := BitVec.getLsbD_and
  rw [after, getLsbD_mieRead, getLsbD_merge, BitVec.getLsbD_and]
  grind

theorem getLsbD_hvipRead_setHvip (s : State) (mask v : Word) (k : Nat) :
    (hvipRead (setHvip s mask v)).getLsbD k =
      if mask.getLsbD k = true ∧ k ∈ [2, 6, 10] then v.getLsbD k else (hvipRead s).getLsbD k := by
  have after : (hvipRead (setHvip s mask v)).getLsbD k =
      ((merge (mask &&& 0x444) s.h.hvip v).getLsbD k && decide (k ∈ [2, 6, 10])) := getLsbD_hvipRead ..
  rw [after, getLsbD_hvipRead, getLsbD_merge, BitVec.getLsbD_and, getLsbD_vsInterrupts]
  grind

theorem mipBit_guest {s : State} (hasH : s.cfg.hasH = true) {k : Nat} (level : k ∈ [2, 6, 10]) :
    mipBit s k = ((hvipRead s).getLsbD k || decide (k = 10) && vgeinPending s) := by
  simp only [List.mem_cons, List.not_mem_nil, or_false] at level
  obtain rfl | rfl | rfl := level <;> simp [mipBit, hasH]

/-- Of mip a write of hvip's bits reaches the VS-level interrupts alone. -/
theorem mipBit_setHvip {s : State} (hasH : s.cfg.hasH = true) (mask v : Word) (k : Nat) :
    mipBit (setHvip s mask v) k =
      if k ∈ [2, 6, 10] then
        (if mask.getLsbD k = true then v.getLsbD k else (hvipRead s).getLsbD k) || decide (k = 10) && vgeinPending s
      else mipBit s k := by
  by_cases level : k ∈ [2, 6, 10]
  · have written := getLsbD_hvipRead_setHvip s mask v k
    rw [mipBit_guest (s := setHvip s mask v) hasH level, written, if_pos level]
    simp only [level, and_true]
    rfl
  · rw [if_neg level]
    simp only [List.mem_cons, List.not_mem_nil, or_false, not_or] at level
    simp only [mipBit, level, if_false]
    rfl

theorem mipBit_supervisor (s : State) {k : Nat} (level : k ∈ [1, 5, 9]) :
    mipBit s k = (s.cfg.hasS && (s.m.mip.getLsbD k || decide (k = 9) && s.plat.sei)) := by
  have stored := getLsbD_mipStored s k
  have bit : mipBit s k =
      if k = 9 then s.cfg.hasS && ((mipStored s).getLsbD k || s.plat.sei) else (mipStored s).getLsbD k := by
    simp only [List.mem_cons, List.not_mem_nil, or_false] at level
    obtain rfl | rfl | rfl := level <;> rfl
  rw [bit, stored]
  grind

/-- Of mip the stored bits SSIP, STIP and SEIP follow what is written. -/
theorem mipBit_storedMip (s : State) (w : Word) (k : Nat) :
    mipBit { s with m := { s.m with mip := w } } k =
      if k ∈ [1, 5, 9] then s.cfg.hasS && (w.getLsbD k || decide (k = 9) && s.plat.sei) else mipBit s k := by
  by_cases level : k ∈ [1, 5, 9]
  · rw [if_pos level, mipBit_supervisor _ level]
  · rw [if_neg level]
    simp only [List.mem_cons, List.not_mem_nil, or_false, not_or] at level
    simp only [mipBit, level, if_false]
    rfl

theorem mipBit_csrWrite_sip {s : State} (hasS : s.cfg.hasS = true) (v : Word) (k : Nat) :
    mipBit (csrWrite s .sip v) k =
      if k = 1 ∧ (midelegRead s).getLsbD 1 = true then v.getLsbD 1 else mipBit s k := by
  by_cases delegated : (midelegRead s).getLsbD 1 = true
  · have write : csrWrite s .sip v = { s with m := { s.m with mip := merge 2 s.m.mip v } } := by
      simp only [csrWrite, delegated, if_true]
    have same : mipBit s k = if k ∈ [1, 5, 9] then s.cfg.hasS && (s.m.mip.getLsbD k || decide (k = 9) && s.plat.sei)
        else mipBit s k := mipBit_storedMip s s.m.mip k
    rw [write, mipBit_storedMip, same, getLsbD_merge, getLsbD_bit1, hasS]
    grind
  · have write : csrWrite s .sip v = s := by simp only [csrWrite, delegated]; rfl
    rw [write, if_neg fun both => delegated both.2]

/-- A write of VSSIP alone. -/
theorem mipBit_setVssip {s : State} (hasH : s.cfg.hasH = true) (v : Word) (k : Nat) :
    mipBit (setHvip s 4 v) k = if k = 2 then v.getLsbD 2 else mipBit s k := by
  by_cases level : k ∈ [2, 6, 10]
  · rw [mipBit_setHvip hasH, mipBit_guest hasH level, if_pos level, getLsbD_bit2]
    grind
  · rw [mipBit_setHvip hasH, if_neg level]
    grind

theorem mipBit_csrWrite_vsip {s : State} (hasH : s.cfg.hasH = true) (v : Word) (k : Nat) :
    mipBit (csrWrite s .vsip v) k =
      if k = 2 ∧ (hidelegRead s).getLsbD 2 = true then v.getLsbD 1 else mipBit s k := by
  by_cases delegated : (hidelegRead s).getLsbD 2 = true
  · have write : csrWrite s .vsip v = setHvip s 4 (v <<< 1) := by simp only [csrWrite, delegated, if_true]
    rw [write, mipBit_setVssip hasH]
    simp [delegated]
  · have write : csrWrite s .vsip v = s := by simp only [csrWrite, delegated]; rfl
    rw [write, if_neg fun both => delegated both.2]

/-- The guest external interrupt that VGEIN names. -/
theorem vgeinPending_eq (s : State) :
    vgeinPending s = (let guest := getField (csrRead s .hstatus) 12 6
      decide (1 ≤ guest ∧ guest ≤ s.cfg.geiLen) && s.plat.gei.getLsbD guest) := by
  have field : getField (csrRead s .hstatus) 12 6 = getField (hstatusRead s) 12 6 :=
    getField_congr fun k hk => by
    have := xlen_ge_32 s.cfg
    exact (getLsbD_wrap ..).trans (by rw [decide_eq_true (by omega), Bool.true_and])
  rw [field]
  simp only [vgeinPending, VGEIN, hgeipRead, BitVec.getLsbD_and, geiMask, getLsbD_fieldMask]
  grind

/-- Settles O21. -/
theorem interruptRegistersAndTheirViews : Obligations.InterruptRegistersAndTheirViews := by
  unfold Obligations.InterruptRegistersAndTheirViews
  refine ⟨fun s => ⟨?_, ?_, ?_⟩, fun s k => ?_, fun s v k => ⟨fun hasS => ?_, fun hasH => ?_⟩⟩
  · rw [getLsbD_csrRead_mip]; rfl
  · rw [getLsbD_csrRead_mip]; rfl
  · rw [getLsbD_csrRead_mip]; rfl
  · simp only [getLsbD_csrRead_mip, getLsbD_csrRead_mie, getLsbD_csrRead_mideleg, getLsbD_csrRead_hideleg, ← getLsbD_mipRead]
    exact ⟨getLsbD_supervisorView .., getLsbD_supervisorView .., getLsbD_hypervisorView .., getLsbD_hypervisorView ..,
      getLsbD_guestView .., getLsbD_guestView ..⟩
  · simp only [getLsbD_csrRead_mip, getLsbD_csrRead_mie, getLsbD_csrRead_mideleg]
    refine ⟨?_, mipBit_csrWrite_sip hasS v k⟩
    refine (getLsbD_mieRead_setMie ..).trans ?_
    rw [BitVec.getLsbD_and, getLsbD_sInterrupts, getLsbD_mieMask, hasS]
    grind
  · have mieMask_guest := getLsbD_mieMask s.cfg k
    simp only [getLsbD_csrRead_mip, getLsbD_csrRead_mie, getLsbD_csrRead_hideleg]
    refine ⟨?_, mipBit_csrWrite_vsip hasH v k, ?_, ?_, ?_, mipBit_setVssip hasH v k⟩
    · refine (getLsbD_mieRead_setMie ..).trans ?_
      rw [getLsbD_hidelegRead, mieMask_guest, hasH, BitVec.getLsbD_shiftLeft]
      by_cases level : k = 2 ∨ k = 6 ∨ k = 10
      · obtain rfl | rfl | rfl := level <;> simp
      · simp [level]
    · refine (getLsbD_mieRead_setMie ..).trans ?_
      rw [getLsbD_hInterrupts, mieMask_guest, hasH]
      grind
    · have read : (csrRead (csrWrite s .hvip v) .hvip).getLsbD k = (hvipRead (setHvip s 0x444 v)).getLsbD k :=
        getLsbD_wrap_low _ fun set => by
          rw [getLsbD_hvipRead] at set
          grind
      rw [read, getLsbD_hvipRead_setHvip, getLsbD_vsInterrupts, getLsbD_hvipRead]
      grind
    · refine (mipBit_setHvip hasH ..).trans ?_
      rw [getLsbD_vsInterrupts, ← vgeinPending_eq]
      grind

end Sys2Proof.Machine
end

section
/-! PROOF. MRET and SRET: the mode, the interrupt enable and pc come back from the stack of the mode they return from
(46_privileged R744 to R746). -/

namespace Sys2Proof.Machine

/-! ### Instructions that run after a permission check -/

section
variable {i : Instr} {s : State} {denied : State → Option Denied} {result : State → Res Unit}
  (body : exec i s = run i s fun s => permit i s (denied s) (result s)) (available : i.available s.cfg = true)
include body available

theorem exec_of_permitted (h : denied s = none) : exec i s = conclude (encode i) (result s) := by
  rw [body, run_available available, permit_none h]

theorem traps_illegal_of_denied (h : denied s = some .illegal) : traps i s (illegalExc (encode i)) := by
  rw [traps, body, run_available available, h]
  rfl

theorem traps_virtual_of_denied (h : denied s = some .virtual) : traps i s (virtualExc (encode i)) := by
  rw [traps, body, run_available available, h]
  rfl

end

/-! ### The state after a return -/

/-- The state after a return to `epc`: the instruction retires with new status registers and a new mode, and the reservation
may be gone (R746). -/
def returned (s : State) (mstatus : Word) (h : HCsrs) (vs : VCsrs) (p : Priv) (v : Bool) (epc : Word) : State :=
  { s with
    pc := wrap s.cfg (epc &&& ~~~3)
    priv := p
    virt := v
    m := { s.m with
      mstatus := mstatus
      minstret := if inhibited s 2 then s.m.minstret else s.m.minstret + 1 }
    h := h
    vs := vs
    resv := if s.cfg.xretClears then none else s.resv }

theorem wrap_epc (c : Config) (epc : Word) : wrap c (epc &&& ~~~3) = ofXlen c (epc.toNat / 4 * 4) :=
  wrap_of_standsFor (standsFor_of_toNat (n := epc.toNat / 4 * 4) (toNat_and_not_fieldMask epc 2))

section
variable {s t : State} {mstatus : Word} {h : HCsrs} {vs : VCsrs} {p : Priv} {v : Bool} {epc : Word}

theorem returned_frame (after : t = returned s mstatus h vs p v epc) :
    wentTo s t (ofXlen s.cfg (epc.toNat / 4 * 4)) ∧ sameRegs s t ∧ sameBytes s t ∧
      (s.cfg.xretClears = false → t.resv = s.resv) := by
  subst after
  exact ⟨⟨wrap_epc .., rfl⟩, fun _ => rfl, fun _ => rfl, fun keeps => by simp [returned, keeps]⟩

theorem mstatusBit_returned (after : t = returned s mstatus h vs p v epc) (k : Nat) :
    mstatusBit t k = statusBit s.cfg k (mstatus.getLsbD k) := by
  subst after
  exact mstatusBit_eq _ k

end

/-- How the three returns end. -/
theorem returnTo_eq (u : State) (p : Priv) (v : Bool) (pc : Word) :
    retireTo (returnReservation (setMode u p v)) pc = { u with
      pc := wrap u.cfg pc
      priv := p
      virt := v
      m := { u.m with minstret := if inhibited u 2 then u.m.minstret else u.m.minstret + 1 }
      resv := if u.cfg.xretClears then none else u.resv } := by
  have end_resv : returnReservation (setMode u p v) =
      { u with priv := p, virt := v, resv := if u.cfg.xretClears then none else u.resv } := by
    change (if u.cfg.xretClears then _ else _) = _
    cases u.cfg.xretClears <;> rfl
  rw [end_resv, retireTo_eq]
  rfl

/-! ### MRET -/

/-- mstatus after MRET. -/
def returnedMstatus (s : State) : Word :=
  let w := setField (setBit (setBit s.m.mstatus MIE (mstatusBit s MPIE)) MPIE true) MPP 2 (leastPriv s.cfg).code
  let w := if s.cfg.hasH then setBit w MPV false else w
  if mpp s = .M then w else setBit w MPRV false

/-- The state with another mstatus. -/
def withMstatus (s : State) (w : Word) : State := { s with m := { s.m with mstatus := w } }

theorem setMstatus_withMstatus (s : State) (w : Word) (i : Nat) (b : Bool) :
    setMstatus (withMstatus s w) i b = withMstatus s (setBit w i b) := rfl

theorem returnM_eq (s : State) :
    returnM s = returned s (returnedMstatus s) s.h s.vs (mpp s)
      (s.cfg.hasH && decide (mpp s ≠ .M) && mstatusBit s MPV) s.m.mepc := by
  have guest : (mpp s != .M) = decide (mpp s ≠ .M) := by simp [bne, Bool.beq_eq_decide_eq]
  have first : setMpp (setMstatus (setMstatus s MIE (mstatusBit s MPIE)) MPIE true) (leastPriv s.cfg) =
      withMstatus s (setField (setBit (setBit s.m.mstatus MIE (mstatusBit s MPIE)) MPIE true) MPP 2
        (leastPriv s.cfg).code) := rfl
  rw [returnM, first, guest, setMstatus_withMstatus, ← apply_ite (withMstatus s), setMstatus_withMstatus,
    ← apply_ite (withMstatus s), returnTo_eq]
  rfl

theorem getLsbD_returnedMstatus (s : State) {k : Nat} (h : k ≠ MPP ∧ k ≠ MPP + 1) :
    (returnedMstatus s).getLsbD k =
      if mpp s ≠ .M ∧ k = MPRV then false
      else if s.cfg.hasH ∧ k = MPV then false
      else if k = MPIE then true
      else if k = MIE then mstatusBit s MPIE
      else s.m.mstatus.getLsbD k := by
  unfold returnedMstatus
  by_cases machine : mpp s = .M <;> cases s.cfg.hasH <;>
    simp (disch := decide) [machine, getLsbD_setBit, getLsbD_setMppField _ _ h]

theorem mppField_returnedMstatus (s : State) : getField (returnedMstatus s) MPP 2 = (leastPriv s.cfg).code := by
  unfold returnedMstatus
  split <;> split <;> simp (disch := decide) only [mppField_setBit, mppField_setField]

theorem stack_of_returnM {s t : State} {h : HCsrs} {vs : VCsrs} {p : Priv} {v : Bool} {epc : Word}
    (after : t = returned s (returnedMstatus s) h vs p v epc) :
    mstatusBit t MIE = mstatusBit s MPIE ∧ mstatusBit t MPIE = true ∧ mpp t = leastPriv s.cfg ∧
      mstatusBit t MPV = false ∧ mstatusBit t MPRV = (decide (mpp s = .M) && mstatusBit s MPRV) := by
  have mpp_t : mpp t = leastPriv s.cfg := by
    have mstatus : t.m.mstatus = returnedMstatus s := by rw [after]; rfl
    rw [mpp, mppField_mstatusRead, mstatus, mppField_returnedMstatus, ofCode_code]
  have bit {k : Nat} (h : k ≠ MPP ∧ k ≠ MPP + 1) := getLsbD_returnedMstatus s h
  refine ⟨?_, ?_, mpp_t, ?_, ?_⟩ <;> rw [mstatusBit_returned after, bit (by decide)]
  · simp [statusBit, MIE, MPIE, MPRV, MPV]
  · simp [statusBit, MPIE, MPRV, MPV]
  · cases hasH : s.cfg.hasH <;> simp [statusBit, MPRV, MPV, hasH]
  · rw [mstatusBit_eq s MPRV]
    by_cases machine : mpp s = .M <;> simp [statusBit, MIE, MPIE, MPRV, MPV, machine]

/-! ### SRET with V = 0 -/

/-- mstatus after SRET with V = 0. -/
def returnedSstatus (s : State) : Word :=
  setBit (setBit (setBit (setBit s.m.mstatus SIE (mstatusBit s SPIE)) SPIE true) SPP false) MPRV false

/-- The hypervisor registers after it: SPV is clear. -/
def returnedHypRegs (s : State) : HCsrs :=
  if s.cfg.hasH then { s.h with hstatus := setBit s.h.hstatus SPV false } else s.h

theorem returnS_eq (s : State) :
    returnS s = returned s (returnedSstatus s) (returnedHypRegs s) s.vs (if mstatusBit s SPP then .S else .U)
      (s.cfg.hasH && hstatusBit s SPV) s.sv.sepc := by
  let s1 := setMstatus (setMstatus (setMstatus s SIE (mstatusBit s SPIE)) SPIE true) SPP false
  have status : setMstatus (if s.cfg.hasH then setHstatus s1 SPV false else s1) MPRV false =
      { s with m := { s.m with mstatus := returnedSstatus s }, h := returnedHypRegs s } := by
    unfold returnedHypRegs
    cases s.cfg.hasH <;> rfl
  rw [returnS, status, returnTo_eq]
  rfl

theorem getLsbD_returnedSstatus (s : State) (k : Nat) :
    (returnedSstatus s).getLsbD k =
      if k = MPRV then false
      else if k = SPP then false
      else if k = SPIE then true
      else if k = SIE then mstatusBit s SPIE
      else s.m.mstatus.getLsbD k := by
  simp (disch := decide) only [returnedSstatus, getLsbD_setBit]

theorem stack_of_returnS {s t : State} {h : HCsrs} {vs : VCsrs} {p : Priv} {v : Bool} {epc : Word}
    (hasS : s.cfg.hasS = true) (after : t = returned s (returnedSstatus s) h vs p v epc) :
    mstatusBit t SIE = mstatusBit s SPIE ∧ mstatusBit t SPIE = true ∧ mstatusBit t SPP = false ∧
      mstatusBit t MPRV = false := by
  simp only [mstatusBit_returned after, getLsbD_returnedSstatus]
  simp [statusBit, SIE, SPIE, SPP, MPRV, hasS]

theorem getLsbD_returnedHypRegs (s : State) (k : Nat) :
    (returnedHypRegs s).hstatus.getLsbD k = if s.cfg.hasH ∧ k = SPV then false else s.h.hstatus.getLsbD k := by
  unfold returnedHypRegs
  cases s.cfg.hasH <;> simp (disch := decide) [getLsbD_setBit]

theorem returnedHypRegs_frame (s : State) :
    returnedHypRegs s = { s.h with hstatus := (returnedHypRegs s).hstatus } := by
  unfold returnedHypRegs
  split <;> rfl

/-! ### SRET with V = 1 -/

/-- The VS registers after SRET with V = 1. -/
def returnedVsstatus (s : State) : Word :=
  setBit (setBit (setBit s.vs.vsstatus SIE (vsstatusBit s SPIE)) SPIE true) SPP false

theorem returnVS_eq (s : State) :
    returnVS s = returned s s.m.mstatus s.h { s.vs with vsstatus := returnedVsstatus s }
      (if vsstatusBit s SPP then .S else .U) s.virt s.vs.vsepc :=
  returnTo_eq ..

theorem getLsbD_returnedVsstatus (s : State) (k : Nat) :
    (returnedVsstatus s).getLsbD k =
      if k = SPP then false
      else if k = SPIE then true
      else if k = SIE then vsstatusBit s SPIE
      else s.vs.vsstatus.getLsbD k := by
  simp (disch := decide) only [returnedVsstatus, getLsbD_setBit]

theorem stack_of_returnVS {s t : State} (vsstatus : t.vs.vsstatus = returnedVsstatus s) :
    vsstatusBit t SIE = vsstatusBit s SPIE ∧ vsstatusBit t SPIE = true ∧ vsstatusBit t SPP = false := by
  simp only [vsstatusBit_of_writable (s := t) (.inl rfl), vsstatusBit_of_writable (s := t) (.inr (.inl rfl)),
    vsstatusBit_of_writable (s := t) (.inr (.inr rfl)), vsstatus, getLsbD_returnedVsstatus]
  simp [SIE, SPIE, SPP]

/-! ### The obligation -/

theorem exec_mret (s : State) :
    exec .mret s = run .mret s fun s =>
      permit .mret s (if s.priv = .M then none else some .illegal) (.ok () (returnM s)) := rfl

theorem exec_sret (s : State) :
    exec .sret s = run .sret s fun s =>
      permit .sret s (sretDenied s) (.ok () (if s.virt then returnVS s else returnS s)) := rfl

theorem sret_available {c : Config} (hasS : c.hasS = true) : Instr.sret.available c = true := by
  simp [Instr.available, Instr.implemented, Instr.regs, hasS]

/-- Settles O29. -/
theorem trapReturns : Obligations.TrapReturns := by
  unfold Obligations.TrapReturns
  refine ⟨fun s => ⟨fun machine => ?_, fun below => ?_⟩, fun s _ hasS _ => ?_⟩
  · have ran := exec_of_permitted (exec_mret s) rfl (if_pos machine)
    have after := returnM_eq s
    obtain ⟨went, regs, bytes, resv⟩ := returned_frame after
    obtain ⟨mie, mpie, least, mpv, mprv⟩ := stack_of_returnM after
    refine ⟨_, ran, by rw [after]; rfl, by rw [after]; rfl, mie, mpie, least, mpv, mprv, ?_, went, regs, bytes, resv,
      by rw [after]; rfl⟩
    intro k nMie nMpie nMpp nMpp1 nMpv nMprv
    rw [after]
    exact (getLsbD_returnedMstatus s ⟨nMpp, nMpp1⟩).trans (by simp [nMie, nMpie, nMpv, nMprv])
  · exact traps_illegal_of_denied (exec_mret s) rfl (if_neg below)
  have available := sret_available hasS
  refine ⟨fun virt mode => ?_, fun virt super vtsr => ?_, fun virt mode => ?_, fun virt mode => ?_⟩
  · have ran := exec_of_permitted (exec_sret s) available (by grind [sretDenied])
    rw [if_neg (by simp [virt])] at ran
    have after := returnS_eq s
    obtain ⟨went, regs, bytes, resv⟩ := returned_frame after
    obtain ⟨sie, spie, spp, mprv⟩ := stack_of_returnS hasS after
    refine ⟨_, ran, by rw [after]; rfl, by rw [after]; rfl, sie, spie, spp, mprv, fun hasH => ?_, went, regs, bytes,
      fun k nSie nSpie nSpp nMprv => ?_, fun k nSpv => ?_, fun noH => ?_, resv, ?_⟩
    · rw [hstatusBit_of_writable (.inr (.inl rfl)), after]
      exact (getLsbD_returnedHypRegs s SPV).trans (if_pos ⟨hasH, rfl⟩)
    · rw [after]
      exact (getLsbD_returnedSstatus s k).trans (by simp [nSie, nSpie, nSpp, nMprv])
    · rw [after]
      exact (getLsbD_returnedHypRegs s k).trans (if_neg fun both => nSpv both.2)
    · rw [after]
      exact if_neg (by simp [noH])
    · rw [after]
      exact congrArg (fun h => returned s _ h ..) (returnedHypRegs_frame s)
  · have ran := exec_of_permitted (exec_sret s) available (by simp [sretDenied, virt, super, vtsr])
    rw [if_pos virt] at ran
    have after := returnVS_eq s
    obtain ⟨went, regs, bytes, resv⟩ := returned_frame after
    obtain ⟨sie, spie, spp⟩ := stack_of_returnVS (s := s) (t := returnVS s) (by rw [after]; rfl)
    refine ⟨_, ran, by rw [after]; rfl, by rw [after]; exact virt, sie, spie, spp, went, regs, bytes,
      fun k nSie nSpie nSpp => ?_, resv, by rw [after]; rfl⟩
    rw [after]
    exact (getLsbD_returnedVsstatus s k).trans (by simp [nSie, nSpie, nSpp])
  · exact traps_illegal_of_denied (exec_sret s) available (by grind [sretDenied])
  · exact traps_virtual_of_denied (exec_sret s) available (by grind [sretDenied])

end Sys2Proof.Machine
end

section
/-! PROOF. WFI: where it runs, where it traps, and how a stalled hart goes on (46_privileged R747, R748). -/

namespace Sys2Proof.Machine

theorem exec_wfi (s : State) :
    exec .wfi s = run .wfi s fun s => permit .wfi s (wfiTrap s) (.ok () { retire s with stalled := wfiStalls s }) := rfl

/-- R747 lets WFI execute without a time limit. -/
def wfiRuns (s : State) : Prop :=
  s.priv = .M ∨ (¬ mstatusBit s TW = true ∧
    ((s.virt = false ∧ (s.priv = .S ∨ s.cfg.hasS = false)) ∨ (s.virt = true ∧ s.priv = .S ∧ hstatusBit s VTW = false)))

theorem wfiDenied_eq_none_iff (s : State) : wfiDenied s = none ↔ wfiRuns s := by
  unfold wfiDenied wfiRuns
  cases priv : s.priv <;> grind

theorem wfiDenied_eq_some {s : State} (restricted : ¬ wfiRuns s) :
    wfiDenied s = some (if s.virt = true ∧ ¬ mstatusBit s TW = true then .virtual else .illegal) := by
  rw [← wfiDenied_eq_none_iff] at restricted
  unfold wfiDenied at *
  grind

/-- The denial of VU-mode has no time limit. -/
theorem wfiTimed_iff (s : State) :
    wfiTimed s = true ↔ ¬ (s.virt = true ∧ s.priv = .U ∧ ¬ mstatusBit s TW = true) := by
  simp only [wfiTimed, Bool.or_eq_true, Bool.not_eq_true', Bool.and_eq_false_iff, beq_eq_false_iff_ne]
  grind

/-- WFI retires and leaves the hart stalled as `stalled` says. -/
def wfiCompletes (s : State) (stalled : Bool) : Prop :=
  ∃ t, exec .wfi s = .next t ∧ sameRegs s t ∧ sameBytes s t ∧ wentTo s t (ofXlen s.cfg (s.pc.toNat + 4)) ∧
    t.stalled = stalled ∧ sameRest s { t with stalled := s.stalled }

theorem wfiCompletes_of_not_trapped {s : State} (permitted : wfiTrap s = none) : wfiCompletes s (wfiStalls s) := by
  obtain ⟨regs, bytes, went⟩ := retire_frame (s := s) (u := s) rfl rfl rfl rfl rfl
  refine ⟨_, exec_of_permitted (exec_wfi s) rfl permitted, regs, bytes, went, rfl, ?_⟩
  rw [retire_eq]
  rfl

theorem wfiCompletes_of_runs {s : State} (runs : wfiRuns s) :
    wfiCompletes s (s.cfg.wfiMayStall && !anyPending s) := by
  have permitted := (wfiDenied_eq_none_iff s).2 runs
  have stalls : wfiStalls s = (s.cfg.wfiMayStall && !anyPending s) := by simp [wfiStalls, permitted]
  exact stalls ▸ wfiCompletes_of_not_trapped (by simp [wfiTrap, permitted])

theorem wfiCompletes_of_inTime {s : State} (restricted : ¬ wfiRuns s) (inTime : wfiInTime s = true) :
    wfiCompletes s false := by
  have stalls : wfiStalls s = false := by simp [wfiStalls, wfiDenied_eq_some restricted]
  exact stalls ▸ wfiCompletes_of_not_trapped (if_pos inTime)

theorem wfi_traps {s : State} (restricted : ¬ wfiRuns s) (late : wfiInTime s = false) :
    traps .wfi s
      (if s.virt = true ∧ ¬ mstatusBit s TW = true then virtualExc (encode .wfi) else illegalExc (encode .wfi)) := by
  have denied : wfiTrap s = wfiDenied s := if_neg (by simp [late])
  rw [wfiDenied_eq_some restricted] at denied
  split <;> rename_i guest
  · exact traps_virtual_of_denied (exec_wfi s) rfl (denied.trans (by rw [if_pos guest]))
  · exact traps_illegal_of_denied (exec_wfi s) rfl (denied.trans (by rw [if_neg guest]))

/-! ### A stalled hart -/

theorem step_stalled {s : State} (quiet : s.inputs = []) (none : boundaryTrap s = none) (stalled : s.stalled = true) :
    step s =
      if anyPending s then after s (runInstr { s with stalled := false })
      else if Config.wfiWakes s.draws then after s (runInstr { s with stalled := false, draws := s.draws + 1 })
      else .next (tick s { s with draws := s.draws + 1 }) := by
  have same : consume s = s := by rw [consume, quiet]
  have woken : wake s =
      if anyPending s then (true, unstall s)
      else if Config.wfiWakes s.draws then (true, unstall (drawn s)) else (false, drawn s) := if_neg (by simp [stalled])
  simp only [step, same, none, woken]
  cases anyPending s <;> cases Config.wfiWakes s.draws <;> rfl

/-- Settles O30. -/
theorem wfiStallsAndResumes : Obligations.WfiStallsAndResumes := by
  unfold Obligations.WfiStallsAndResumes
  refine ⟨fun s => ⟨wfiCompletes_of_runs, fun restricted limit => ?_, fun restricted limit vu pending => ?_,
    fun restricted limit vu => ?_⟩, fun s quiet none stalled => ?_⟩
  · refine wfi_traps restricted ?_
    obtain zero | vu := limit
    · simp [wfiInTime, zero]
    · have untimed : wfiTimed s = false := Bool.eq_false_iff.2 fun timed => (wfiTimed_iff s).1 timed vu
      simp [wfiInTime, untimed]
  · exact wfiCompletes_of_inTime restricted (by simp [wfiInTime, limit, (wfiTimed_iff s).2 vu, pending])
  · cases inTime : wfiInTime s
    · exact .inr (wfi_traps restricted inTime)
    · exact .inl (wfiCompletes_of_inTime restricted inTime)
  · rw [step_stalled quiet none stalled]
    refine ⟨fun pending => if_pos pending, fun idle => ?_⟩
    rw [if_neg (by simp [idle])]
    cases Config.wfiWakes s.draws
    exacts [.inr rfl, .inl rfl]

end Sys2Proof.Machine
end

section
/-! PROOF. The hypervisor's fences and who may run them, HLV, HLVX and HSV (48_hypervisor R790, R792, R803; 47_svinval R774 to
R777; 22_translation R488). -/

namespace Sys2Proof.Machine

/-! ### The fence over hgatp's tables (R792) -/

/-- The entries of the virtual machine that rs2 names: all if it is x0. -/
def ofVmid (s : State) (rs2 : Reg) (e : TcEntry) : Prop := rs2 = 0 ∨ e.vmid = uReg s rs2 % 2 ^ s.cfg.vmidLen

theorem namesVmid_iff (s : State) (rs2 : Reg) (e : TcEntry) :
    namesVmid ((fenceOperand s rs2).map (fenceVmid s.cfg)) e = true ↔ ofVmid s rs2 e := by
  obtain rfl | h := eq_or_ne rs2 0
  · exact iff_of_true rfl (.inl rfl)
  · have vmid : fenceVmid s.cfg (rX s rs2) = uReg s rs2 % 2 ^ s.cfg.vmidLen := by simp [fenceVmid, getField, uReg]
    rw [fenceOperand_of_ne h, Option.map_some, vmid, ofVmid, or_iff_right h]
    simp [namesVmid]

theorem fenceOperand_guestAddr (s : State) (rs1 : Reg) :
    ((fenceOperand s rs1).map fun v => 4 * v.toNat) = namedAddr s rs1 4 := by
  unfold fenceOperand namedAddr uReg
  split <;> rfl

theorem fenced_fenceG (s : State) (rs1 rs2 : Reg) :
    Fenced s (fenceG s rs1 rs2) (fun e => e.stage = .g ∧ ofVmid s rs2 e) (namedAddr s rs1 4) := by
  rw [fenceG, fenceOperand_guestAddr]
  exact fenced_tcFence (fun e => by rw [Bool.and_eq_true, beq_iff_eq, namesVmid_iff]) _

/-- HFENCE.GVMA: the fence over hgatp's tables and, with x0, x0, the PMP synchronised for guests (22_translation R488). -/
theorem hfenceG_eq (s : State) (rs1 rs2 : Reg) :
    hfenceG s rs1 rs2 = { s with
      tc := (fenceG s rs1 rs2).tc
      pmpStaleG := if rs1 = 0 ∧ rs2 = 0 then [] else s.pmpStaleG } := by
  have cache : fenceG s rs1 rs2 = { s with tc := (fenceG s rs1 rs2).tc } := tcFence_eq ..
  rw [hfenceG, cache, syncPmpG]
  split <;> rfl

/-! ### Who may run them (R803) -/

theorem hfenceVDenied_eq (s : State) :
    hfenceVDenied s = if s.virt then some .virtual else if s.priv = .U then some .illegal else none := rfl

theorem hfenceGDenied_eq (s : State) :
    hfenceGDenied s = if s.virt then some .virtual
      else if s.priv = .U ∨ (s.priv = .S ∧ mstatusBit s TVM = true) then some .illegal else none := rfl

section
variable {i : Instr} {s : State} (available : i.available s.cfg = true)
include available

/-- A denial by the check of the instruction is the exception taken. -/
theorem traps_of_guarded {denied : State → Option Denied} {result : State → Res Unit}
    (body : exec i s = run i s fun s => permit i s (denied s) (result s)) :
    (denied s = some .illegal → traps i s (illegalExc (encode i))) ∧
      (denied s = some .virtual → traps i s (virtualExc (encode i))) :=
  ⟨traps_illegal_of_denied body available, traps_virtual_of_denied body available⟩

theorem traps_of_guestLoad {rd rs1 : Reg} {u : PmaUse} {n : Nat} {signed : Bool}
    (body : exec i s = run i s fun s =>
      permit i s (guestAccessDenied s) (loadTo s .guest u rd (rX s rs1) n signed)) :
    (guestAccessDenied s = some .illegal → traps i s (illegalExc (encode i))) ∧
      (guestAccessDenied s = some .virtual → traps i s (virtualExc (encode i))) :=
  traps_of_guarded available (result := fun s => loadTo s .guest u rd (rX s rs1) n signed) body

theorem traps_of_guestStore {rs1 rs2 : Reg} {n : Nat}
    (body : exec i s = run i s fun s =>
      permit i s (guestAccessDenied s) (storeFrom s .guest (rX s rs1) n (rX s rs2))) :
    (guestAccessDenied s = some .illegal → traps i s (illegalExc (encode i))) ∧
      (guestAccessDenied s = some .virtual → traps i s (virtualExc (encode i))) :=
  traps_of_guarded available (result := fun s => storeFrom s .guest (rX s rs1) n (rX s rs2)) body

end

/-- Settles O35. -/
theorem guestAccessNeedsItsMode : Obligations.GuestAccessNeedsItsMode := by
  unfold Obligations.GuestAccessNeedsItsMode
  refine fun s _ => ⟨fun virt => ?_, fun virt => ?_, fun rd rs1 rs2 i d available form => ?_⟩
  · rw [hfenceVDenied_eq, hfenceGDenied_eq, guestAccessDenied, virt]
    exact ⟨rfl, rfl, rfl⟩
  · rw [hfenceVDenied_eq, hfenceGDenied_eq, guestAccessDenied, virt]
    simp
  · obtain ⟨rfl, rfl⟩ | ⟨rfl, rfl⟩ | ⟨rfl, rfl⟩ | ⟨rfl, rfl⟩ | ⟨rfl, rfl⟩ | ⟨rfl, rfl⟩ | ⟨rfl, rfl⟩ | ⟨rfl, rfl⟩ |
      ⟨rfl, rfl⟩ | ⟨rfl, rfl⟩ | ⟨rfl, rfl⟩ | ⟨rfl, rfl⟩ | ⟨rfl, rfl⟩ | ⟨rfl, rfl⟩ | ⟨rfl, rfl⟩ := form
    exacts [traps_of_guestLoad available rfl, traps_of_guestLoad available rfl, traps_of_guestLoad available rfl,
      traps_of_guestLoad available rfl, traps_of_guestLoad available rfl, traps_of_guestLoad available rfl,
      traps_of_guestLoad available rfl, traps_of_guestLoad available rfl, traps_of_guestLoad available rfl,
      traps_of_guestStore available rfl, traps_of_guestStore available rfl, traps_of_guestStore available rfl,
      traps_of_guestStore available rfl,
      traps_of_guarded available (result := fun s => .ok () (retire (hfenceV s rs1 rs2))) rfl,
      traps_of_guarded available (result := fun s => .ok () (retire (hfenceG s rs1 rs2))) rfl]

/-- Settles O32: permitted, the instructions are the two fences. -/
theorem hypervisorFencesInvalidate : Obligations.HypervisorFencesInvalidate := by
  unfold Obligations.HypervisorFencesInvalidate
  intro s rs1 rs2 i g form available
  cases g with
  | true =>
    have body : exec i s = run i s fun s => permit i s (hfenceGDenied s) (.ok () (retire (hfenceG s rs1 rs2))) := by
      obtain ⟨-, ⟨⟩⟩ | ⟨-, ⟨⟩⟩ | ⟨rfl, -⟩ | ⟨rfl, -⟩ := form <;> rfl
    refine ⟨fun virt mode => ?_, fun virt => ?_, fun virt mode => ?_⟩
    · have ran := exec_permitted body available (by grind [hfenceGDenied_eq])
      rw [hfenceG_eq] at ran
      obtain ⟨regs, bytes, went⟩ := retire_frame (s := s) (u := { s with
        tc := (fenceG s rs1 rs2).tc
        pmpStaleG := if rs1 = 0 ∧ rs2 = 0 then [] else s.pmpStaleG }) rfl rfl rfl rfl rfl
      refine ⟨_, ran, regs, bytes, went, ?_, fun _ => ⟨?_, ?_⟩, nofun⟩
      · rw [retire_eq]
        rfl
      · exact (fenced_fenceG s rs1 rs2).congr (by rw [retire, retireTo_tc])
      · rw [retire, retireTo_pmpStaleG]
    · exact exec_denied_virtual body available (by simp [hfenceGDenied_eq, virt])
    · exact exec_denied_illegal body available (by grind [hfenceGDenied_eq])
  | false =>
    have body : exec i s = run i s fun s => permit i s (hfenceVDenied s) (.ok () (retire (fenceVs s rs1 rs2))) := by
      obtain ⟨rfl, -⟩ | ⟨rfl, -⟩ | ⟨-, ⟨⟩⟩ | ⟨-, ⟨⟩⟩ := form <;> rfl
    refine ⟨fun virt mode => ?_, fun virt => ?_, fun virt mode => ?_⟩
    · have ran := exec_permitted body available (by grind [hfenceVDenied_eq])
      rw [fenceVs_eq] at ran
      obtain ⟨regs, bytes, went⟩ := retire_frame (s := s) (u := { s with tc := (fenceVs s rs1 rs2).tc }) rfl rfl rfl rfl rfl
      refine ⟨_, ran, regs, bytes, went, ?_, nofun, fun _ => ⟨?_, fun valid => ?_, fun operand invalid => ?_⟩⟩
      · rw [retire_eq]
        rfl
      · rw [retire, retireTo_pmpStaleG]
      · exact (fenced_fenceVs rs2 valid).congr (by rw [retire, retireTo_tc])
      · rw [retire, retireTo_tc, fenceVs_invalid rs2 operand invalid]
    · exact exec_denied_virtual body available (by simp [hfenceVDenied_eq, virt])
    · exact exec_denied_illegal body available (by grind [hfenceVDenied_eq])

end Sys2Proof.Machine
end

section
/-! PROOF. What the shared memory operations answer on a granted access, whoever makes it; HLV, HLVX and HSV
(20_memory R340; 48_hypervisor R782 to R799). -/

namespace Sys2Proof.Machine

/-! ### An access that nothing translates -/

/-- An aligned access at an address that translation leaves alone and both checks let pass is granted there (R340). -/
theorem access_direct {s : State} {via : Via} {u : PmaUse} {ea : Word} {n : Nat} (width : n = 1 ∨ n = 2 ∨ n = 4 ∨ n = 8)
    (aligned : ea.toNat % n = 0) (identity : translate s (dataReq s via u ea ea) = .ok (.plain ea.toNat) s)
    (attributes : pmaAllows s.cfg .pma ea.toNat n n u = true)
    (protection : pmpCheck s.cfg s.pmp ea.toNat n (useAcc u) (effMode s via).1 = true)
    (synchronised : (if (effMode s via).2 then s.pmpStaleG else s.pmpStale) = []) :
    access s via u ea n = .ok [(ea.toNat, n)] s := by
  have unrefused : misalignedCause s.cfg u ea n = none := if_pos aligned
  have checked : checkPhys s (dataReq s via u ea ea) u (useAcc u) (effMode s via).1 (.plain ea.toNat) n n = .ok () s := by
    unfold checkPhys
    rw [pmpPass_synchronised s (dataReq s via u ea ea).virt _ _ _ _ synchronised]
    simp [Mapping.plain, attributes, protection]
  have mode : (dataReq s via u ea ea).priv = (effMode s via).1 := rfl
  have type : (dataReq s via u ea ea).acc = useAcc u := rfl
  simp only [access, unrefused, parts_aligned s.cfg width aligned, resolve, identity, bind_ok, mode, type, checked]
  rfl

/-- Under Bare translation at both stages a guest access is at its own address (48_hypervisor R782). -/
theorem access_of_guestReachable {s : State} {u : PmaUse} {ea : Word} {n : Nat} (width : n = 1 ∨ n = 2 ∨ n = 4 ∨ n = 8)
    (h : GuestReachable s u ea.toNat n) : access s .guest u ea n = .ok [(ea.toNat, n)] s := by
  refine access_direct width h.aligned ?_ h.attributes h.protection h.synchronised
  have below : (dataReq s .guest u ea ea).priv ≠ .M := by
    change (if hstatusBit s SPVP then Priv.S else .U) ≠ .M
    split <;> decide
  rw [translate, if_neg below, if_pos (show (dataReq s .guest u ea ea).virt = true from rfl),
    translateV_bare h.vsBare h.gBare]
  rfl

theorem guestAccessDenied_of_machine {s : State} (machine : s.priv = .M) (notVirtual : s.virt = false) :
    guestAccessDenied s = none := by
  simp [guestAccessDenied, machine, notVirtual]

/-! ### A load -/

/-- A load on a granted access writes what was read to rd and does nothing else. -/
theorem loadTo_granted {s s1 : State} {via : Via} {u : PmaUse} {rd : Reg} {ea : Word} {n d : Nat} {signed : Bool}
    {pas : List (Nat × Nat)} {bs : List Byte} (granted : access s via u ea n = .ok pas s1)
    (read : readParts s1 pas = .ok bs { s1 with draws := d }) :
    let v := ofBytes (orderBytes (viaBig s via) bs)
    ∃ t, loadTo s via u rd ea n signed = .ok () t ∧ wroteReg s1 t rd (wrap s.cfg (if signed then sextBytes n v else v)) ∧
      wentTo s1 t (nextPc s1) ∧ sameBytes s1 t ∧ sameRest s1 t := by
  intro v
  have cfg : s1.cfg = s.cfg := ((access_touches ..).1 _ _ granted).cfg
  refine ⟨retire (wX { s1 with draws := d } rd (if signed then sextBytes n v else v)), ?_, ?_, ?_, fun a => ?_, ?_⟩
  · rw [loadTo, memRead, granted, bind_ok, read]
    rfl
  · rw [← cfg]
    exact wroteReg_writeBack (u := { s1 with draws := d }) rfl rfl rd _
  · exact wentTo_retire (wX_cfg ..) (wX_pc ..) (wX_m ..)
  · rw [retire, retireTo_mem, wX_mem]
  · exact sameRest_retire (sameRest_wX (u := { s1 with draws := d }) rfl rd _)

/-- The number that n bytes of main memory make, as a register value. -/
theorem wrap_loaded_bytes {n : Nat} (width : n = 1 ∨ n = 2 ∨ n = 4 ∨ n = 8) (c : Config) (signed big : Bool)
    (mem : List Host.Cell) (a : Nat) :
    wrap c (if signed then sextBytes n (ofBytes (orderBytes big (Memory.readBytes mem a n)))
      else ofBytes (orderBytes big (Memory.readBytes mem a n))) = extended c signed n (bytesValue big mem a n) := by
  have fits : (orderBytes big (Memory.readBytes mem a n)).length ≤ 8 := by
    rw [length_orderBytes, length_readBytes]
    omega
  rw [wrap_loaded width, toNat_ofBytes fits, ← bytesValue_eq]

/-! ### A store -/

theorem storeFrom_granted {s s1 u : State} {via : Via} {ea v : Word} {n : Nat} {pas : List (Nat × Nat)}
    (granted : access s via .store ea n = .ok pas s1)
    (written : writeParts s1 pas (orderBytes (viaBig s via) (bytesOf n v)) = .ok () u) :
    storeFrom s via ea n v = .ok () (retire u) := by
  rw [storeFrom, memWrite, granted, bind_ok, written, bind_ok]

/-- A write of one part in main memory. -/
theorem writeParts_main {s : State} {a n : Nat} (main : isIo s.cfg a n = false) (big : Bool) (v : Word) :
    writeParts s [(a, n)] (orderBytes big (bytesOf n v)) = .ok () (storeBytes s a (orderBytes big (bytesOf n v))) := by
  have len : (orderBytes big (bytesOf n v)).length = n := by simp
  have written := writeParts_one s a (orderBytes big (bytesOf n v))
  rwa [physStore_main (by rwa [len]), len] at written

theorem staleOnly_store (s : State) (big : Bool) (a n : Nat) (v : Word) :
    staleOnly s (storeBytes s a (orderBytes big (bytesOf n v))) a n := by
  have len : (orderBytes big (bytesOf n v)).length = n := by simp
  have stale := staleOnly_storeBytes s a (orderBytes big (bytesOf n v))
  rwa [len] at stale

/-- A store in one part, in main memory. -/
theorem storeFrom_one_part {s s1 : State} {via : Via} {ea v : Word} {n a : Nat} (wf : Memory.wf s.mem = true)
    (granted : access s via .store ea n = .ok [(a, n)] s1) (main : isIo s1.cfg a n = false) :
    ∃ t, storeFrom s via ea n v = .ok () t ∧ stored s1 t (viaBig s via) a n v.toNat ∧ sameRegs s1 t ∧
      wentTo s1 t (nextPc s1) ∧ sameRestStore s1 t a n := by
  have wf1 : Memory.wf s1.mem = true := ((access_touches ..).1 _ _ granted).wf wf
  refine ⟨_, storeFrom_granted granted (writeParts_main main ..), ?_, sameRegs_retire rfl rfl, wentTo_retire rfl rfl rfl,
    sameRest_retire_stored rfl, ?_⟩
  · rw [retire_eq]
    exact stored_storeBytes wf1 ..
  · rw [retire_eq]
    exact staleOnly_store ..

/-- A store in two parts, both in main memory. -/
theorem storeFrom_two_parts {s s1 : State} {via : Via} {ea v : Word} {n a m b k : Nat} (wf : Memory.wf s.mem = true)
    (width : n ≤ 8) (granted : access s via .store ea n = .ok [(a, m), (b, k)] s1) (mainA : isIo s1.cfg a m = false)
    (mainB : isIo s1.cfg b k = false) :
    let bs := orderBytes (viaBig s via) (bytesOf n v)
    ∃ t, storeFrom s via ea n v = .ok () t ∧
      (∀ x, Memory.read t.mem x = if b ≤ x ∧ x < b + k then bs.getD (m + (x - b)) 0
        else if a ≤ x ∧ x < a + m then bs.getD (x - a) 0 else Memory.read s1.mem x) ∧
      (∀ e ∈ s1.istale, e ∈ t.istale) ∧
      (∀ e ∈ t.istale, e ∈ s1.istale ∨ (e.1 % 4 = 0 ∧
        ((e.1 < a + m ∧ a < e.1 + 4) ∨ (e.1 < b + k ∧ b < e.1 + 4)) ∧ e.2 = Memory.inst s1.mem e.1)) ∧
      sameRegs s1 t ∧ wentTo s1 t (nextPc s1) ∧ sameRest s1 { t with istale := s1.istale } := by
  intro bs
  have wf1 : Memory.wf s1.mem = true := ((access_touches ..).1 _ _ granted).wf wf
  have sum : m + k = n := by simpa using sum_granted granted
  have len : bs.length = m + k := by simp [bs, sum]
  obtain ⟨ends, starts⟩ := two_parts granted
  have written := writeParts_two s1 a b len
  have lower : (bs.take m).length = m := by simp [len]
  have upper : (bs.drop m).length = k := by simp [len]
  rw [physStore_main (s := s1) (by rwa [lower]), physStore_main (by rwa [upper])] at written
  refine ⟨_, storeFrom_granted granted written, fun x => ?_, fun e h => ?_, fun e h => ?_, sameRegs_retire rfl rfl,
    wentTo_retire rfl rfl rfl, sameRest_retire_stored rfl⟩
  · rw [retire_eq]
    exact read_storeBytes_two wf1 len x
  · rw [retire_eq]
    exact List.mem_append_right _ (List.mem_append_right _ h)
  · rw [retire_eq] at h
    exact istale_storeBytes_two wf1 len ends starts (by omega) h

/-! ### The obligations -/

/-- A body that retires is what the instruction answers. -/
theorem exec_of_permitted_ok {i : Instr} {s t : State} {denied : State → Option Denied} {result : State → Res Unit}
    (body : exec i s = run i s fun s => permit i s (denied s) (result s)) (available : i.available s.cfg = true)
    (permitted : denied s = none) (ran : result s = .ok () t) : exec i s = .next t := by
  rw [exec_of_permitted body available permitted, ran]
  rfl

/-- Settles O33: a form is the load on the guest's access, and Bare grants its own address. -/
theorem guestLoadsComplete : Obligations.GuestLoadsComplete := by
  unfold Obligations.GuestLoadsComplete
  refine ⟨fun s rd rs1 i u n signed form available reachable => ?_,
    fun s s1 rd rs1 i u n signed pas form available permitted granted main => ?_⟩
  · have body : exec i s = run i s fun s =>
        permit i s (guestAccessDenied s) (loadTo s .guest u rd (rX s rs1) n signed) := by
      casesm* _ ∨ _, _ ∧ _ <;> subst_vars <;> rfl
    have width : n = 1 ∨ n = 2 ∨ n = 4 ∨ n = 8 := by omega
    have read := readParts_main (s := s) (pas := [((rX s rs1).toNat, n)]) (List.forall_mem_singleton.2 reachable.mainMemory)
    rw [List.flatMap_singleton] at read
    obtain ⟨t, ran, wrote, went, rest⟩ := loadTo_granted (rd := rd) (signed := signed)
      (access_of_guestReachable width reachable) read
    rw [wrap_loaded_bytes width] at wrote
    exact ⟨t, exec_of_permitted_ok body available (guestAccessDenied_of_machine reachable.machine reachable.notVirtual) ran,
      wrote, nextPc_eq_ofXlen s ▸ went, rest⟩
  · have body : exec i s = run i s fun s =>
        permit i s (guestAccessDenied s) (loadTo s .guest u rd (rX s rs1) n signed) := by
      casesm* _ ∨ _, _ ∧ _ <;> subst_vars <;> rfl
    have value (v : Word) : (if signed then sextBytes n else id) v = if signed then sextBytes n v else v := by
      cases signed <;> rfl
    obtain ⟨t, ran, done⟩ := loadTo_granted (rd := rd) (signed := signed) granted (readParts_main main)
    rw [value]
    exact ⟨t, exec_of_permitted_ok body available permitted ran, done⟩

/-- Settles O34: a form is the store on the guest's access, and Bare grants its own address. -/
theorem guestStoresComplete : Obligations.GuestStoresComplete := by
  unfold Obligations.GuestStoresComplete
  refine ⟨fun s rs1 rs2 i n form available wf reachable => ?_,
    fun s s1 rs1 rs2 i n a form available permitted wf => ?_⟩
  · have body : exec i s = run i s fun s =>
        permit i s (guestAccessDenied s) (storeFrom s .guest (rX s rs1) n (rX s rs2)) := by
      casesm* _ ∨ _, _ ∧ _ <;> subst_vars <;> rfl
    obtain ⟨t, ran, done⟩ := storeFrom_one_part (v := rX s rs2) wf (access_of_guestReachable (by omega) reachable)
      reachable.mainMemory
    rw [← nextPc_eq_ofXlen]
    exact ⟨t, exec_of_permitted_ok body available (guestAccessDenied_of_machine reachable.machine reachable.notVirtual) ran,
      done⟩
  · have body : exec i s = run i s fun s =>
        permit i s (guestAccessDenied s) (storeFrom s .guest (rX s rs1) n (rX s rs2)) := by
      casesm* _ ∨ _, _ ∧ _ <;> subst_vars <;> rfl
    refine ⟨fun granted main => ?_, fun m b k granted mainA mainB => ?_⟩
    · obtain ⟨t, ran, done⟩ := storeFrom_one_part (v := rX s rs2) wf granted main
      exact ⟨t, exec_of_permitted_ok body available permitted ran, done⟩
    · obtain ⟨t, ran, done⟩ := storeFrom_two_parts (v := rX s rs2) wf (by omega) granted mainA mainB
      exact ⟨t, exec_of_permitted_ok body available permitted ran, done⟩

end Sys2Proof.Machine
end

section
/-! PROOF. LR, SC and the AMOs on a granted access in main memory (45_a R702 to R734; 20_memory R340). -/

namespace Sys2Proof.Machine

/-! ### Writing rd back after an atomic operation -/

/-- What an atomic operation does besides writing rd: memory, the words a fetch may still see, the reservation, free values. -/
def atomicPart (s u : State) : Prop :=
  u = { s with mem := u.mem, istale := u.istale, resv := u.resv, draws := u.draws }

section
variable {s u : State} (part : atomicPart s u) (rd : Reg) (v : Word)
include part

theorem wroteReg_of_atomicPart : wroteReg s (retire (wX u rd v)) rd (wrap s.cfg v) :=
  wroteReg_writeBack (by rw [part]) (by rw [part]) rd v

theorem wentTo_of_atomicPart : wentTo s (retire (wX u rd v)) (nextPc s) :=
  wentTo_retire ((wX_cfg ..).trans (by rw [part])) ((wX_pc ..).trans (by rw [part])) ((wX_m ..).trans (by rw [part]))

theorem sameRest_of_atomicPart :
    sameRest s { retire (wX u rd v) with resv := s.resv, istale := s.istale } := by
  have before : sameRest s { u with resv := s.resv, istale := s.istale } := by
    rw [part]
    rfl
  have swap : { retire (wX u rd v) with resv := s.resv, istale := s.istale } =
      retire (wX { u with resv := s.resv, istale := s.istale } rd v) := by
    rw [retire_eq, retire_eq]
    unfold wX
    split <;> rfl
  rw [swap]
  exact sameRest_retire (sameRest_wX before rd v)

end

theorem retire_wX_mem (u : State) (rd : Reg) (v : Word) : (retire (wX u rd v)).mem = u.mem := by
  rw [retire, retireTo_mem, wX_mem]

theorem retire_wX_resv (u : State) (rd : Reg) (v : Word) : (retire (wX u rd v)).resv = u.resv := by
  rw [retire, retireTo_resv, wX_resv]

theorem retire_wX_istale (u : State) (rd : Reg) (v : Word) : (retire (wX u rd v)).istale = u.istale := by
  rw [retire, retireTo_istale, wX_istale]

/-- Memory unchanged: the words a fetch may see are too. -/
theorem sameRest_unstored {s t : State} (h : sameRest s { t with resv := s.resv, istale := s.istale })
    (istale : t.istale = s.istale) : sameRest s { t with resv := s.resv } := by
  rwa [← istale] at h

/-- The bytes that a store changes are of memory alone. -/
theorem stored_congr {s t t' : State} {big : Bool} {a n v v' : Nat} (h : stored s t big a n v) (mem : t'.mem = t.mem)
    (value : v' % 256 ^ n = v % 256 ^ n) : stored s t' big a n v' := by
  obtain ⟨bytes, outside⟩ := h
  exact ⟨by rw [mem, bytes, value], fun b apart => by rw [mem, outside b apart]⟩

/-! ### LR -/

theorem atomicPart_setResv (s : State) (r : Option Reservation) : atomicPart s (setResv s r) := rfl

theorem lrTo_granted {s s1 : State} {rd : Reg} {ea : Word} {n a : Nat} (width : n = 1 ∨ n = 2 ∨ n = 4 ∨ n = 8)
    (granted : access s .plain .lr ea n = .ok [(a, n)] s1) (main : isIo s1.cfg a n = false) :
    ∃ t, lrTo s rd ea n = .ok () t ∧
      wroteReg s1 t rd (extended s.cfg true n (bytesValue (viaBig s .plain) s1.mem a n)) ∧
      t.resv = some { block := a / 2 ^ s.cfg.rsetLog2, addr := a, ea := ea, size := n } ∧
      wentTo s1 t (nextPc s1) ∧ sameBytes s1 t ∧ sameRest s1 { t with resv := s1.resv } := by
  have cfg : s1.cfg = s.cfg := ((access_touches ..).1 _ _ granted).cfg
  have read := readParts_main (s := s1) (pas := [(a, n)]) (List.forall_mem_singleton.2 main)
  rw [List.flatMap_singleton] at read
  let reservation : Reservation := { block := a / 2 ^ s.cfg.rsetLog2, addr := a, ea := ea, size := n }
  have value := wrap_loaded_bytes width s1.cfg true (viaBig s .plain) s1.mem a
  have part := atomicPart_setResv s1 (some reservation)
  refine ⟨retire (wX (setResv s1 (some reservation)) rd (sextBytes n (ofBytes (orderBytes (viaBig s .plain)
    (Memory.readBytes s1.mem a n))))), ?_, ?_, ?_, wentTo_of_atomicPart part .., ?_, ?_⟩
  · rw [lrTo, loadReserved, granted, bind_ok, read]
    rfl
  · rw [← cfg, ← value, if_pos rfl]
    exact wroteReg_of_atomicPart part rd _
  · exact retire_wX_resv ..
  · exact fun b => by rw [retire_wX_mem]; rfl
  · exact sameRest_unstored (sameRest_of_atomicPart part ..) (retire_wX_istale ..)

/-- Settles O23. -/
theorem loadReservedCompletes : Obligations.LoadReservedCompletes := by
  unfold Obligations.LoadReservedCompletes
  intro s aq rl rd rs1 i n form available
  have body : exec i s = run i s fun s => lrTo s rd (rX s rs1) n := by
    obtain ⟨rfl, rfl⟩ | ⟨rfl, rfl⟩ := form <;> rfl
  have width : n = 1 ∨ n = 2 ∨ n = 4 ∨ n = 8 := by omega
  have completes {s1 : State} {a : Nat} (granted : access s .plain .lr (rX s rs1) n = .ok [(a, n)] s1)
      (main : isIo s1.cfg a n = false) := lrTo_granted (rd := rd) width granted main
  have answers {t : State} (ran : lrTo s rd (rX s rs1) n = .ok () t) : exec i s = .next t := by
    rw [body, run_available available, ran]
    rfl
  refine ⟨fun reachable => ?_, fun s1 a granted main => ?_⟩
  · obtain ⟨t, ran, done⟩ := completes (access_of_reachable width reachable) reachable.mainMemory
    rw [← nextPc_eq_ofXlen, ← viaBig_of_reachable reachable]
    exact ⟨t, answers ran, done⟩
  · obtain ⟨t, ran, done⟩ := completes granted main
    exact ⟨t, answers ran, done⟩

/-! ### SC -/

theorem wrap_small {c : Config} {w : Word} (small : w.toNat < 2 ^ 32) : wrap c w = w := by
  apply BitVec.eq_of_toNat_eq
  rw [toNat_wrap, Nat.mod_eq_of_lt (small.trans_le (Nat.pow_le_pow_right (by decide) (xlen_ge_32 c)))]

/-- An atomic access that is granted is aligned (R345), and so is the physical address. -/
theorem aligned_of_granted {s s1 : State} {u : PmaUse} {ea : Word} {n a : Nat} (width : n = 4 ∨ n = 8)
    (atomic : useAtomic u = true) (granted : access s .plain u ea n = .ok [(a, n)] s1) : a % n = 0 := by
  have aligned : ea.toNat % n = 0 := by
    by_contra misaligned
    have refused : ∃ cause, misalignedCause s.cfg u ea n = some cause := by
      rw [misalignedCause, if_neg misaligned]
      cases s.cfg.misaligned
      exacts [⟨_, rfl⟩, ⟨_, rfl⟩, ⟨_, if_pos atomic⟩]
    obtain ⟨cause, refused⟩ := refused
    simp only [access, refused] at granted
    split at granted
    · cases granted
    · obtain ⟨_, _, -, trapped⟩ := bind_eq_ok.1 granted
      cases trapped
  have at_parts : PartsAt (parts s.cfg ea n) [(a, n)] := (access_answers s .plain u ea n).of_ok granted
  rw [parts_aligned s.cfg (by omega) aligned] at at_parts
  obtain _ | ⟨⟨-, same⟩, -⟩ := at_parts
  dsimp only at same
  obtain rfl | rfl := width <;> omega

/-- An aligned block of 2^k bytes holds an aligned access of n bytes whole, if n divides its length. -/
theorem last_byte_in_block {a n k : Nat} (pos : 0 < n) (divides : n ∣ 2 ^ k) (aligned : a % n = 0) :
    (a + n - 1) / 2 ^ k = a / 2 ^ k := by
  obtain ⟨m, size⟩ := divides
  obtain ⟨b, rfl⟩ := Nat.dvd_of_mod_eq_zero aligned
  have last : n * b + n - 1 = n * b + (n - 1) := by omega
  rw [size, last, ← Nat.div_div_eq_div_mul, ← Nat.div_div_eq_div_mul, Nat.mul_add_div pos, Nat.mul_div_cancel_left _ pos,
    Nat.div_eq_of_lt (by omega : n - 1 < n), Nat.add_zero]

theorem reserved_iff {s : State} {a n : Nat} (width : n = 4 ∨ n = 8) (valid : s.cfg.valid = true) (aligned : a % n = 0) :
    reserved s a n = true ↔ ∃ v, s.resv = some v ∧ v.block = a / 2 ^ s.cfg.rsetLog2 := by
  have blocks : 3 ≤ s.cfg.rsetLog2 := by
    simp only [Config.valid, Bool.and_eq_true, decide_eq_true_eq] at valid
    grind
  have divides : n ∣ 2 ^ s.cfg.rsetLog2 := by
    have eight : (8 : Nat) ∣ 2 ^ s.cfg.rsetLog2 := pow_dvd_pow 2 blocks
    obtain rfl | rfl := width
    exacts [(by decide : (4 : Nat) ∣ 8).trans eight, eight]
  have whole := last_byte_in_block (by omega) divides aligned
  cases resv : s.resv with
  | none => simp [reserved, resv]
  | some v => simp [reserved, resv, whole]

section
variable {s s1 : State} {rd : Reg} {ea v : Word} {n a : Nat}

/-- Without the reservation SC writes 1, and nothing else happens but that no reservation is left. -/
theorem scTo_unreserved (granted : access s .plain .sc ea n = .ok [(a, n)] s1) (lost : reserved s1 a n = false) :
    scTo s rd ea n v = .ok () (retire (wX (setResv s1 none) rd 1)) := by
  rw [scTo, storeConditional, granted, bind_ok, if_neg (by simp [firstPa, lost])]
  rfl

/-- With it SC stores and writes 0, or fails all the same where that is allowed. -/
theorem scTo_reserved (granted : access s .plain .sc ea n = .ok [(a, n)] s1) (main : isIo s1.cfg a n = false)
    (kept : reserved s1 a n = true) :
    ∃ d, scTo s rd ea n v = .ok () (retire (wX (setResv { storeBytes s1 a (orderBytes (viaBig s .plain) (bytesOf n v)) with
          draws := d } none) rd 0)) ∨
      (s1.cfg.scMayFail = true ∧ scTo s rd ea n v = .ok () (retire (wX (setResv { s1 with draws := d } none) rd 1))) := by
  have chosen : spurious s1 = (false, { s1 with draws := (spurious s1).2.draws }) ∨
      (s1.cfg.scMayFail = true ∧ spurious s1 = (true, { s1 with draws := (spurious s1).2.draws })) := by
    unfold spurious
    cases s1.cfg.scMayFail
    · exact .inl rfl
    · cases Config.scFails s1.draws
      exacts [.inl rfl, .inr ⟨rfl, rfl⟩]
  generalize (spurious s1).2.draws = d at chosen
  have first : reserved s1 (firstPa [(a, n)]) n = true := kept
  refine ⟨d, chosen.imp (fun stores => ?_) fun ⟨mayFail, fails⟩ => ⟨mayFail, ?_⟩⟩
  · have written : writeParts { s1 with draws := d } [(a, n)] (orderBytes (viaBig s .plain) (bytesOf n v)) =
        .ok () { storeBytes s1 a (orderBytes (viaBig s .plain) (bytesOf n v)) with draws := d } :=
      writeParts_main (s := { s1 with draws := d }) main ..
    rw [scTo, storeConditional, granted, bind_ok, if_pos first, stores]
    dsimp only
    rw [written]
    rfl
  · rw [scTo, storeConditional, granted, bind_ok, if_pos first, fails]
    rfl

/-- SC completes, and its three outcomes. -/
theorem scTo_granted (width : n = 4 ∨ n = 8) (valid : s.cfg.valid = true) (wf : Memory.wf s.mem = true)
    (granted : access s .plain .sc ea n = .ok [(a, n)] s1) (main : isIo s1.cfg a n = false) :
    let held := ∃ v, s.resv = some v ∧ v.block = a / 2 ^ s.cfg.rsetLog2
    ∃ t, scTo s rd ea n v = .ok () t ∧ t.resv = none ∧ wentTo s1 t (nextPc s1) ∧
      (¬ held → wroteReg s1 t rd 1 ∧ sameBytes s1 t ∧ sameRest s1 { t with resv := s1.resv }) ∧
      (held → (wroteReg s1 t rd 0 ∧ stored s1 t (viaBig s .plain) a n v.toNat ∧
          sameRestStore s1 { t with resv := s1.resv } a n) ∨
        (s.cfg.scMayFail = true ∧ wroteReg s1 t rd 1 ∧ sameBytes s1 t ∧ sameRest s1 { t with resv := s1.resv })) := by
  intro held
  have touched := (access_touches ..).1 _ _ granted
  have kept_iff : reserved s1 a n = true ↔ held := by
    rw [reserved_iff width (touched.cfg ▸ valid) (aligned_of_granted width rfl granted), touched.resv, touched.cfg]
  have failed (d : Nat) : wroteReg s1 (retire (wX (setResv { s1 with draws := d } none) rd 1)) rd 1 ∧
      sameBytes s1 (retire (wX (setResv { s1 with draws := d } none) rd 1)) ∧
      sameRest s1 { retire (wX (setResv { s1 with draws := d } none) rd 1) with resv := s1.resv } := by
    have part : atomicPart s1 (setResv { s1 with draws := d } none) := rfl
    have wrote := wroteReg_of_atomicPart part rd 1
    rw [wrap_small (by decide)] at wrote
    exact ⟨wrote, fun b => by rw [retire_wX_mem]; rfl,
      sameRest_unstored (sameRest_of_atomicPart part ..) (retire_wX_istale ..)⟩
  cases reserves : reserved s1 a n with
  | false =>
    have lost : ¬ held := fun h => by simp [kept_iff.2 h] at reserves
    exact ⟨_, scTo_unreserved granted reserves, retire_wX_resv .., wentTo_of_atomicPart (atomicPart_setResv s1 none) ..,
      fun _ => failed s1.draws, fun h => absurd h lost⟩
  | true =>
    have kept := kept_iff.1 reserves
    obtain ⟨d, ran | ⟨mayFail, ran⟩⟩ := scTo_reserved (rd := rd) (v := v) granted main reserves
    · let w := storeBytes s1 a (orderBytes (viaBig s .plain) (bytesOf n v))
      have part : atomicPart s1 (setResv { w with draws := d } none) := rfl
      have wrote := wroteReg_of_atomicPart part rd 0
      rw [wrap_small (by decide)] at wrote
      refine ⟨_, ran, retire_wX_resv .., wentTo_of_atomicPart part .., fun lost => absurd kept lost, fun _ => .inl ⟨wrote, ?_,
        sameRest_of_atomicPart part .., ?_⟩⟩
      · exact stored_congr (stored_storeBytes (touched.wf wf) (viaBig s .plain) a n v) (retire_wX_mem ..) rfl
      · have stale := staleOnly_store s1 (viaBig s .plain) a n v
        rw [staleOnly]
        dsimp only
        rw [retire_wX_istale]
        exact stale
    · have part : atomicPart s1 (setResv { s1 with draws := d } none) := rfl
      exact ⟨_, ran, retire_wX_resv .., wentTo_of_atomicPart part .., fun lost => absurd kept lost,
        fun _ => .inr ⟨touched.cfg ▸ mayFail, failed d⟩⟩

end

/-- Settles O24. -/
theorem storeConditionalCompletes : Obligations.StoreConditionalCompletes := by
  unfold Obligations.StoreConditionalCompletes
  intro s aq rl rd rs1 rs2 i n form available valid wf held
  have body : exec i s = run i s fun s => scTo s rd (rX s rs1) n (rX s rs2) := by
    obtain ⟨rfl, rfl⟩ | ⟨rfl, rfl⟩ := form <;> rfl
  have width : n = 4 ∨ n = 8 := by omega
  have completes {s1 : State} {a : Nat} (granted : access s .plain .sc (rX s rs1) n = .ok [(a, n)] s1)
      (main : isIo s1.cfg a n = false) := scTo_granted (rd := rd) (v := rX s rs2) width valid wf granted main
  have answers {t : State} (ran : scTo s rd (rX s rs1) n (rX s rs2) = .ok () t) : exec i s = .next t := by
    rw [body, run_available available, ran]
    rfl
  refine ⟨fun reachable => ?_, fun s1 a granted main => ?_⟩
  · obtain ⟨t, ran, done⟩ := completes (access_of_reachable (by omega) reachable) reachable.mainMemory
    rw [← nextPc_eq_ofXlen, ← viaBig_of_reachable reachable]
    exact ⟨t, answers ran, done⟩
  · obtain ⟨t, ran, done⟩ := completes granted main
    exact ⟨t, answers ran, done⟩

end Sys2Proof.Machine
end

section
/-! PROOF. The AMOs: rd receives the old value and memory the combined one (45_a R716 to R734). -/

namespace Sys2Proof.Machine

/-- What an AMO of L bits makes of the numbers in memory and in the register. -/
def amoNumber (L : Nat) (op : AmoOp) (old src : Nat) : Nat :=
  match op with
  | .swap => src
  | .add => old + src
  | .xor => old ^^^ src
  | .and => old &&& src
  | .or => old ||| src
  | .min => if Int.bmod old (2 ^ L) < Int.bmod src (2 ^ L) then old else src
  | .max => if Int.bmod old (2 ^ L) < Int.bmod src (2 ^ L) then src else old
  | .minu => if old < src then old else src
  | .maxu => if old < src then src else old

theorem sextBytes_slt {n : Nat} (width : n = 1 ∨ n = 2 ∨ n = 4 ∨ n = 8) (x y : Word) :
    (sextBytes n x).slt (sextBytes n y) = true ↔ Int.bmod x.toNat (2 ^ (8 * n)) < Int.bmod y.toNat (2 ^ (8 * n)) := by
  rw [BitVec.slt_iff_toInt_lt, toInt_sextBytes width, toInt_sextBytes width]

theorem zextBytes_ult (n : Nat) (x y : Word) :
    (zextBytes n x).ult (zextBytes n y) = true ↔ x.toNat % 2 ^ (8 * n) < y.toNat % 2 ^ (8 * n) := by
  rw [BitVec.ult_iff_toNat_lt, zextBytes, toNat_and_fieldMask, zextBytes, toNat_and_fieldMask]

theorem bmod_natCast_mod (x m : Nat) : Int.bmod ((x % m : Nat) : Int) m = Int.bmod x m := by
  rw [Int.natCast_mod, Int.emod_bmod]

/-- An operation depends on the low bits of its operands alone. -/
theorem amoResult_modEq {n : Nat} (width : n = 4 ∨ n = 8) (op : AmoOp) {old : Word} (src : Word)
    (fits : old.toNat < 2 ^ (8 * n)) :
    (amoResult op n old src).toNat % 2 ^ (8 * n) =
      amoNumber (8 * n) op old.toNat (src.toNat % 2 ^ (8 * n)) % 2 ^ (8 * n) := by
  have signed := sextBytes_slt (n := n) (by omega) old src
  have unsigned := zextBytes_ult n old src
  have same : Int.bmod ((src.toNat % 2 ^ (8 * n) : Nat) : Int) (2 ^ (8 * n)) = Int.bmod src.toNat (2 ^ (8 * n)) := by
    exact_mod_cast bmod_natCast_mod src.toNat (2 ^ (8 * n))
  rw [Nat.mod_eq_of_lt fits] at unsigned
  cases op with
  | swap => exact (Nat.mod_mod ..).symm
  | add =>
    change (old + src).toNat % 2 ^ (8 * n) = (old.toNat + src.toNat % 2 ^ (8 * n)) % 2 ^ (8 * n)
    rw [BitVec.toNat_add]
    obtain rfl | rfl := width <;> omega
  | xor =>
    change (old ^^^ src).toNat % _ = (old.toNat ^^^ (src.toNat % _)) % _
    rw [BitVec.toNat_xor, Nat.xor_mod_two_pow, Nat.xor_mod_two_pow, Nat.mod_mod]
  | and =>
    change (old &&& src).toNat % _ = (old.toNat &&& (src.toNat % _)) % _
    rw [BitVec.toNat_and, Nat.and_mod_two_pow, Nat.and_mod_two_pow, Nat.mod_mod]
  | or =>
    change (old ||| src).toNat % _ = (old.toNat ||| (src.toNat % _)) % _
    rw [BitVec.toNat_or, Nat.or_mod_two_pow, Nat.or_mod_two_pow, Nat.mod_mod]
  | min =>
    simp only [amoResult, amoNumber, signed, same]
    split <;> simp
  | max =>
    simp only [amoResult, amoNumber, signed, same]
    split <;> simp
  | minu =>
    simp only [amoResult, amoNumber, unsigned]
    split <;> simp
  | maxu =>
    simp only [amoResult, amoNumber, unsigned]
    split <;> simp

/-- An AMO on a granted access in main memory. -/
theorem amoTo_granted {s s1 : State} {rd : Reg} {op : AmoOp} {ea src : Word} {n a : Nat} (width : n = 4 ∨ n = 8)
    (wf : Memory.wf s.mem = true) (granted : access s .plain (.amo op) ea n = .ok [(a, n)] s1)
    (main : isIo s1.cfg a n = false) :
    let old := bytesValue (viaBig s .plain) s1.mem a n
    ∃ t, amoTo s rd op ea n src = .ok () t ∧ wroteReg s1 t rd (extended s.cfg true n old) ∧
      stored s1 t (viaBig s .plain) a n (amoNumber (8 * n) op old (src.toNat % 2 ^ (8 * n))) ∧
      wentTo s1 t (nextPc s1) ∧ sameRestStore s1 t a n := by
  intro old
  have touched := (access_touches ..).1 _ _ granted
  have read := readParts_main (s := s1) (pas := [(a, n)]) (List.forall_mem_singleton.2 main)
  rw [List.flatMap_singleton] at read
  let bs := orderBytes (viaBig s .plain) (Memory.readBytes s1.mem a n)
  have len : bs.length = n := by rw [length_orderBytes, length_readBytes]
  have value : wrap s1.cfg (sextBytes n (ofBytes bs)) = extended s1.cfg true n old :=
    wrap_loaded_bytes (by omega) s1.cfg true (viaBig s .plain) s1.mem a
  have old_eq : (ofBytes bs).toNat = old := by
    rw [toNat_ofBytes (by omega)]
    exact (bytesValue_eq ..).symm
  have pow : 256 ^ n = 2 ^ (8 * n) := by rw [Nat.pow_mul]
  have fits : (ofBytes bs).toNat < 2 ^ (8 * n) := by
    rw [toNat_ofBytes (by omega), ← pow, ← len]
    exact byteNumber_lt bs
  let v := amoResult op n (ofBytes bs) src
  let u := storeBytes s1 a (orderBytes (viaBig s .plain) (bytesOf n v))
  have part : atomicPart s1 u := rfl
  have rest := sameRest_of_atomicPart part rd (sextBytes n (ofBytes bs))
  refine ⟨retire (wX u rd (sextBytes n (ofBytes bs))), ?_, ?_, ?_, wentTo_of_atomicPart part .., ?_, ?_⟩
  · rw [amoTo, amo, granted, bind_ok, read, bind_ok]
    dsimp only
    rw [writeParts_main main]
    rfl
  · rw [← touched.cfg, ← value]
    exact wroteReg_of_atomicPart part rd _
  · refine stored_congr (stored_storeBytes (touched.wf wf) (viaBig s .plain) a n v) (retire_wX_mem ..) ?_
    rw [pow, ← old_eq]
    exact (amoResult_modEq width op src fits).symm
  · have resv : (retire (wX u rd (sextBytes n (ofBytes bs)))).resv = s1.resv := retire_wX_resv ..
    rwa [← resv] at rest
  · have stale := staleOnly_store s1 (viaBig s .plain) a n v
    rw [staleOnly, retire_wX_istale]
    exact stale

/-- The same of an instruction, in M-mode on reachable memory and in any mode on what `access` grants. -/
theorem amo_completes {i : Instr} {s : State} {rd rs1 rs2 : Reg} {op : AmoOp} {n : Nat} (width : n = 4 ∨ n = 8)
    (body : exec i s = run i s fun s => amoTo s rd op (rX s rs1) n (rX s rs2)) (available : i.available s.cfg = true)
    (wf : Memory.wf s.mem = true) :
    let new (old : Nat) := amoNumber (8 * n) op old (uReg s rs2 % 2 ^ (8 * n))
    (Reachable s (.amo op) (uReg s rs1) n →
      let old := bytesValue (mstatusBit s MBE) s.mem (uReg s rs1) n
      ∃ t, exec i s = .next t ∧ wroteReg s t rd (extended s.cfg true n old) ∧
        stored s t (mstatusBit s MBE) (uReg s rs1) n (new old) ∧ wentTo s t (ofXlen s.cfg (s.pc.toNat + 4)) ∧
        sameRestStore s t (uReg s rs1) n) ∧
    (∀ (s1 : State) (a : Nat), access s .plain (.amo op) (rX s rs1) n = .ok [(a, n)] s1 → isIo s1.cfg a n = false →
      let old := bytesValue (viaBig s .plain) s1.mem a n
      ∃ t, exec i s = .next t ∧ wroteReg s1 t rd (extended s.cfg true n old) ∧
        stored s1 t (viaBig s .plain) a n (new old) ∧ wentTo s1 t (nextPc s1) ∧ sameRestStore s1 t a n) := by
  intro new
  have completes {s1 : State} {a : Nat} (granted : access s .plain (.amo op) (rX s rs1) n = .ok [(a, n)] s1)
      (main : isIo s1.cfg a n = false) := amoTo_granted (rd := rd) (src := rX s rs2) width wf granted main
  have answers {t : State} (ran : amoTo s rd op (rX s rs1) n (rX s rs2) = .ok () t) : exec i s = .next t := by
    rw [body, run_available available, ran]
    rfl
  refine ⟨fun reachable => ?_, fun s1 a granted main => ?_⟩
  · obtain ⟨t, ran, done⟩ := completes (access_of_reachable (by omega) reachable) reachable.mainMemory
    rw [← nextPc_eq_ofXlen, ← viaBig_of_reachable reachable]
    exact ⟨t, answers ran, done⟩
  · obtain ⟨t, ran, done⟩ := completes granted main
    exact ⟨t, answers ran, done⟩

/-- Settles O25. -/
theorem amosOnWords : Obligations.AmosOnWords := by
  unfold Obligations.AmosOnWords
  intro s aq rl rd rs1 rs2 i op form available wf
  have body : exec i s = run i s fun s => amoTo s rd op (rX s rs1) 4 (rX s rs2) := by
    casesm* _ ∨ _, _ ∧ _ <;> subst_vars <;> rfl
  have completes := amo_completes (n := 4) (.inl rfl) body available wf
  cases op <;> exact completes

/-- Settles O26. -/
theorem amosOnDoublewords : Obligations.AmosOnDoublewords := by
  unfold Obligations.AmosOnDoublewords
  intro s aq rl rd rs1 rs2 i op form available wf
  have body : exec i s = run i s fun s => amoTo s rd op (rX s rs1) 8 (rX s rs2) := by
    casesm* _ ∨ _, _ ∧ _ <;> subst_vars <;> rfl
  have completes := amo_completes (n := 8) (.inr rfl) body available wf
  cases op <;> exact completes

end Sys2Proof.Machine
end

section
/-! PROOF. The memory-mapped registers: where they are, and what a write at an offset leaves in one (60_exceptions R852,
R853). -/

namespace Sys2Proof.Machine

/-! ### A field of a word written -/

/-- A number from its low bits, a field above them, and the rest. -/
theorem eq_of_fields {x lo mid hi m n : Nat} (low : x % 2 ^ m = lo) (middle : x / 2 ^ m % 2 ^ n = mid)
    (high : x / 2 ^ (m + n) = hi) : x = lo + 2 ^ m * mid + hi * 2 ^ (m + n) := by
  have outer := Nat.div_add_mod x (2 ^ m)
  have inner := Nat.div_add_mod (x / 2 ^ m) (2 ^ n)
  rw [Nat.div_div_eq_div_mul, ← Nat.pow_add, middle, high] at inner
  rw [low, ← inner] at outer
  rw [← outer, Nat.pow_add]
  ring

/-- A field of n bits from bit m up is written; the others keep their value. -/
theorem toNat_merge_field (old v : Word) {m n : Nat} (fits : m + n ≤ 64) :
    (merge (fieldMask m n) old (v <<< m)).toNat =
      old.toNat % 2 ^ m + 2 ^ m * (v.toNat % 2 ^ n) + old.toNat / 2 ^ (m + n) * 2 ^ (m + n) := by
  have bit (k : Nat) : (merge (fieldMask m n) old (v <<< m)).toNat.testBit k =
      if m ≤ k ∧ k < m + n then v.toNat.testBit (k - m) else old.toNat.testBit k := by
    change (merge (fieldMask m n) old (v <<< m)).getLsbD k = if _ then v.getLsbD (k - m) else old.getLsbD k
    rw [getLsbD_merge, getLsbD_fieldMask, BitVec.getLsbD_shiftLeft]
    grind
  refine eq_of_fields (Nat.eq_of_testBit_eq fun k => ?_) (Nat.eq_of_testBit_eq fun k => ?_)
    (Nat.eq_of_testBit_eq fun k => ?_)
  · rw [Nat.testBit_mod_two_pow, Nat.testBit_mod_two_pow, bit]
    grind
  · rw [Nat.testBit_mod_two_pow, Nat.testBit_div_two_pow, bit, Nat.testBit_mod_two_pow]
    grind
  · rw [Nat.testBit_div_two_pow, Nat.testBit_div_two_pow, bit]
    grind

/-! ### Where the registers are -/

/-- The registers' bytes are apart from one another. -/
theorem placed_apart {c : Config} (placed : c.devicesPlaced = true) :
    (c.mtimeBase + 8 ≤ c.mtimecmpBase ∨ c.mtimecmpBase + 8 * c.harts ≤ c.mtimeBase) ∧
      (c.mtimeBase + 8 ≤ c.msipBase ∨ c.msipBase + 4 * c.harts ≤ c.mtimeBase) ∧
      (c.mtimecmpBase + 8 * c.harts ≤ c.msipBase ∨ c.msipBase + 4 * c.harts ≤ c.mtimecmpBase) := by
  simp only [Config.devicesPlaced, Config.apart, Bool.and_eq_true, Bool.or_eq_true, decide_eq_true_eq] at placed
  obtain ⟨⟨⟨-, first⟩, second⟩, third⟩ := placed
  exact ⟨first, second, third⟩

section
variable {c : Config} {off n : Nat} (pos : 0 < n)
include pos

theorem deviceAt_mtime (inside : off + n ≤ 8) : deviceAt c (c.mtimeBase + off) n = some (.mtime, off) := by
  have touches : overlaps (c.mtimeBase + off) n c.mtimeBase 8 = true := by
    simp only [overlaps, Bool.and_eq_true, decide_eq_true_eq]
    omega
  have slot : (deviceSlot c.mtimeBase 8 (c.mtimeBase + off)).2 = off := by
    rw [deviceSlot, if_pos (by omega), Nat.add_sub_cancel_left]
    exact Nat.mod_eq_of_lt (by omega)
  rw [deviceAt, if_pos touches, slot]

variable (placed : c.devicesPlaced = true) {h : Nat} (hart : h < c.harts)
include placed hart

theorem deviceAt_mtimecmp (inside : off + n ≤ 8) :
    deviceAt c (c.mtimecmpBase + 8 * h + off) n = some (.mtimecmp h, off) := by
  obtain ⟨first, -, -⟩ := placed_apart placed
  have spares : ¬ overlaps (c.mtimecmpBase + 8 * h + off) n c.mtimeBase 8 = true := by
    simp only [overlaps, Bool.and_eq_true, decide_eq_true_eq]
    omega
  have touches : overlaps (c.mtimecmpBase + 8 * h + off) n c.mtimecmpBase (8 * c.harts) = true := by
    simp only [overlaps, Bool.and_eq_true, decide_eq_true_eq]
    omega
  have slot : deviceSlot c.mtimecmpBase 8 (c.mtimecmpBase + 8 * h + off) = (h, off) := by
    rw [deviceSlot, if_pos (by omega), Prod.mk.injEq]
    omega
  rw [deviceAt, if_neg spares, if_pos touches, slot]

theorem deviceAt_msip (inside : off + n ≤ 4) : deviceAt c (c.msipBase + 4 * h + off) n = some (.msip h, off) := by
  obtain ⟨-, second, third⟩ := placed_apart placed
  have sparesTime : ¬ overlaps (c.msipBase + 4 * h + off) n c.mtimeBase 8 = true := by
    simp only [overlaps, Bool.and_eq_true, decide_eq_true_eq]
    omega
  have sparesCmp : ¬ overlaps (c.msipBase + 4 * h + off) n c.mtimecmpBase (8 * c.harts) = true := by
    simp only [overlaps, Bool.and_eq_true, decide_eq_true_eq]
    omega
  have touches : overlaps (c.msipBase + 4 * h + off) n c.msipBase (4 * c.harts) = true := by
    simp only [overlaps, Bool.and_eq_true, decide_eq_true_eq]
    omega
  have slot : deviceSlot c.msipBase 4 (c.msipBase + 4 * h + off) = (h, off) := by
    rw [deviceSlot, if_pos (by omega), Prod.mk.injEq]
    omega
  rw [deviceAt, if_neg sparesTime, if_neg sparesCmp, if_pos touches, slot]

end

/-! ### A store to one -/

theorem physStore_device {s : State} {a off : Nat} {bs : List Byte} {r : DevReg} (io : isIo s.cfg a bs.length = true)
    (at_reg : deviceAt s.cfg a bs.length = some (r, off)) : physStore s a bs = deviceWrite s r off bs := by
  rw [physStore, if_pos io, at_reg]

/-- The register's value after bytes are written at an offset. -/
def writtenValue (s : State) (r : DevReg) (off : Nat) (bs : List Byte) : Word :=
  merge (fieldMask (8 * off) (8 * bs.length)) (deviceValue s r) (ofBytes bs <<< (8 * off))

/-- The bytes written take their place in the register, least significant first. -/
theorem toNat_writtenValue (s : State) (r : DevReg) {off : Nat} {bs : List Byte} (fits : off + bs.length ≤ 8) :
    (writtenValue s r off bs).toNat =
      (deviceValue s r).toNat % 2 ^ (8 * off) + 2 ^ (8 * off) * byteNumber bs +
        (deviceValue s r).toNat / 2 ^ (8 * off + 8 * bs.length) * 2 ^ (8 * off + 8 * bs.length) := by
  have small : byteNumber bs < 2 ^ (8 * bs.length) := by
    rw [Nat.pow_mul]
    exact byteNumber_lt bs
  rw [writtenValue, toNat_merge_field _ _ (by omega), toNat_ofBytes (by omega), Nat.mod_eq_of_lt small]

section
variable {s : State} {h : Nat} (own : h = s.cfg.mhartid.toNat) (off : Nat) (bs : List Byte)
include own

theorem deviceOwn_mtimecmp : deviceOwn s.cfg (.mtimecmp h) = true := by simp [deviceOwn, own]

theorem deviceOwn_msip : deviceOwn s.cfg (.msip h) = true := by simp [deviceOwn, own]

theorem deviceWrite_mtimecmp : deviceWrite s (.mtimecmp h) off bs =
    { s with plat := { s.plat with mtimecmp := writtenValue s (.mtimecmp h) off bs } } :=
  if_pos (deviceOwn_mtimecmp own)

theorem deviceWrite_msip : deviceWrite s (.msip h) off bs =
    { s with plat := { s.plat with msip := (writtenValue s (.msip h) off bs).getLsbD 0 } } :=
  if_pos (deviceOwn_msip own)

theorem deviceValue_mtimecmp : deviceValue s (.mtimecmp h) = s.plat.mtimecmp := if_pos (deviceOwn_mtimecmp own)

theorem deviceValue_msip : deviceValue s (.msip h) = boolWord s.plat.msip := if_pos (deviceOwn_msip own)

end

/-- Bit 0 of what is written at offset 0. -/
theorem getLsbD_zero_writtenValue (s : State) (r : DevReg) (b : Byte) (bs : List Byte) :
    (writtenValue s r 0 (b :: bs)).getLsbD 0 = b.getLsbD 0 := by
  have inside : (fieldMask (8 * 0) (8 * (b :: bs).length)).getLsbD 0 = true := by
    rw [getLsbD_fieldMask]
    simp
  rw [writtenValue, getLsbD_merge, if_pos inside, Nat.mul_zero, BitVec.shiftLeft_zero]
  simp [ofBytes]

end Sys2Proof.Machine
end

section
/-! PROOF. The stores of other agents: which end the hart's reservation, and what those to the memory-mapped registers leave
there (45_a R708; 60_exceptions R852, R853; 70_reset_and_hazards R930). -/

namespace Sys2Proof.Machine

/-! ### The reservation after an event -/

theorem specWalk_resv (s : State) (k : SpecWalk) : (specWalk s k).resv = s.resv := by
  have walked : Res.Touches s (specTranslate s k) := by
    unfold specTranslate
    split
    exacts [gStage_touches .., translate_touches ..]
  unfold specWalk
  split
  · split <;> rename_i answer
    exacts [(walked.1 _ _ answer).resv, (walked.2 _ _ answer).resv]
  · rfl

theorem walks_resv (l : List SpecWalk) (s : State) : (l.foldl specWalk s).resv = s.resv := by
  induction l generalizing s with
  | nil => rfl
  | cons k l ih => rw [List.foldl_cons, ih, specWalk_resv]

theorem storeCells_cfg (s : State) (cells : List Host.Cell) : (storeCells s cells).cfg = s.cfg :=
  (touched_storeCells s cells).cfg

/-- A byte that ends the reservation `v` is stored by another hart or a device. -/
def endedBy (c : Config) (e : Input) (v : Reservation) : Bool :=
  (hartAddrs c e).any (inReservationSet c v) ||
    (deviceAddrs e).any fun a => inLrBytes v a || (e.dropResv && inReservationSet c v a)

theorem stores_resv (s : State) (e : Input) :
    (deviceStores (hartStores s e) e).resv = s.resv.filter fun v => !endedBy s.cfg e v := by
  have cfg : (hartStores s e).cfg = s.cfg := by rw [hartStores, storeCells_cfg, dropReservation_resv]
  have hart : (hartStores s e).resv = s.resv.filter fun v => !(hartAddrs s.cfg e).any (inReservationSet s.cfg v) := by
    rw [hartStores, (touched_storeCells ..).resv, dropReservation_resv]
  rw [deviceStores, (touched_storeCells ..).resv, dropReservation_resv, cfg]
  dsimp only
  rw [hart, Option.filter_filter]
  congr 1
  funext v
  rw [endedBy, Bool.not_or, Bool.and_comm]

theorem applyInput_resv (s : State) (e : Input) :
    (applyInput s e).resv = if e.reset then none else s.resv.filter fun v => !endedBy s.cfg e v := by
  rw [applyInput, walks_resv, ← stores_resv]
  cases e.reset <;> rfl

/-! ### Which bytes end it -/

theorem inReservationSet_iff (c : Config) (v : Reservation) (a : Nat) :
    inReservationSet c v a = true ↔ a / 2 ^ c.rsetLog2 = v.block := by
  rw [inReservationSet, beq_iff_eq, eq_comm]

theorem inLrBytes_iff (v : Reservation) (a : Nat) : inLrBytes v a = true ↔ v.addr ≤ a ∧ a < v.addr + v.size := by
  rw [inLrBytes, Bool.and_eq_true, decide_eq_true_eq, decide_eq_true_eq]

/-- The bytes of a register that is written whole. -/
theorem any_whole (c : Config) (r : DevReg) (written : Bool) (p : Nat → Bool) :
    (if written then deviceBytes c r else []).any p = true ↔
      written = true ∧ ∃ k < r.size, p (deviceAddr c r + k) = true := by
  cases written <;> simp [deviceBytes]

theorem any_hartAddrs (c : Config) (e : Input) (p : Nat → Bool) :
    (hartAddrs c e).any p = true ↔ (∃ b ∈ e.stores, p b.1 = true) ∨
      (e.mtime.isSome = true ∧ ∃ k < 8, p (c.mtimeBase + k) = true) ∨
      (e.mtimecmp.isSome = true ∧ ∃ k < 8, p (c.mtimecmpBase + 8 * c.mhartid.toNat + k) = true) ∨
      (e.msip.isSome = true ∧ ∃ k < 4, p (c.msipBase + 4 * c.mhartid.toNat + k) = true) := by
  have listed : (e.stores.map Prod.fst).any p = true ↔ ∃ b ∈ e.stores, p b.1 = true := by
    rw [List.any_map, List.any_eq_true]
    rfl
  simp only [hartAddrs, List.any_append, Bool.or_eq_true, any_whole, listed, or_assoc]
  rfl

theorem any_deviceAddrs (e : Input) (p : Nat → Bool) :
    (deviceAddrs e).any p = true ↔ ∃ b ∈ e.deviceStores, p b.1 = true := by
  rw [deviceAddrs, List.any_map, List.any_eq_true]
  rfl

/-! ### A byte stored to a register -/

/-- The one byte of an event is stored as at any physical address; only the reservation may change besides. -/
theorem stores_single {s : State} {e : Input} {a : Nat} {b : Byte} (single : e.stores ++ e.deviceStores = [(a, b)]) :
    ∃ r r', deviceStores (hartStores s e) e = { physStore { s with resv := r } a [b] with resv := r' } := by
  obtain ⟨hart, device⟩ | ⟨hart, device⟩ := List.append_eq_singleton_iff.1 single
  · have stored : ∃ r, deviceStores (hartStores s e) e = physStore { s with resv := r } a [b] := by
      rw [deviceStores, hartStores, hart, device, dropReservation_resv, dropReservation_resv]
      exact ⟨_, rfl⟩
    obtain ⟨r, stored⟩ := stored
    exact ⟨r, (physStore { s with resv := r } a [b]).resv, stored⟩
  · have stored : ∃ r, hartStores s e = physStore { s with resv := r } a [b] := by
      rw [hartStores, hart, dropReservation_resv]
      exact ⟨_, rfl⟩
    obtain ⟨r, stored⟩ := stored
    rw [deviceStores, device, stored, dropReservation_resv]
    exact ⟨r, _, rfl⟩

/-- The platform's registers and memory after an event whose one byte goes to a register. -/
theorem applyInput_single {s : State} {e : Input} {a off : Nat} {b : Byte} {r : DevReg} (quiet : e.reset = false)
    (unwalked : e.walks = []) (io : isIo s.cfg a 1 = true) (single : e.stores ++ e.deviceStores = [(a, b)])
    (at_reg : deviceAt s.cfg a 1 = some (r, off)) :
    ∃ v, (applyInput s e).mem = (deviceWrite { s with resv := v } r off [b]).mem ∧
      (applyInput s e).plat = (setPlatform (deviceWrite { s with resv := v } r off [b]) e).plat := by
  obtain ⟨v, v', stored⟩ := stores_single (s := s) single
  rw [physStore_device (s := { s with resv := v }) io at_reg] at stored
  refine ⟨v, ?_, ?_⟩ <;>
  · rw [applyInput, unwalked, quiet, stored]
    rfl

/-- A byte put at place k of a register. -/
theorem toNat_byteWritten (s : State) (r : DevReg) {k : Nat} (inside : k < 8) (b : Byte) :
    (writtenValue s r k [b]).toNat =
      (deviceValue s r).toNat % 2 ^ (8 * k) + 2 ^ (8 * k) * b.toNat +
        (deviceValue s r).toNat / 2 ^ (8 * k + 8) * 2 ^ (8 * k + 8) := by
  have one : byteNumber [b] = b.toNat := by simp [byteNumber]
  rw [toNat_writtenValue s r (by simpa using inside), one]
  rfl

/-- Settles O27. -/
theorem otherAgentsEndReservations : Obligations.OtherAgentsEndReservations := by
  unfold Obligations.OtherAgentsEndReservations
  refine ⟨fun s e none => ?_, fun s e reset => ?_, fun s e v held running => ?_,
    fun s e a b valid running unwalked io single mtime mtimecmp msip => ?_⟩
  · rw [applyInput_resv, none]
    exact ite_self _
  · rw [applyInput_resv, reset]
    rfl
  · intro t inSet inLr own byHart onLr onSet
    have after : t.resv = if endedBy s.cfg e v then none else some v := by
      rw [applyInput_resv, held, running]
      cases ended : endedBy s.cfg e v <;> simp [Option.filter, ended]
    have hart : (hartAddrs s.cfg e).any (inReservationSet s.cfg v) = true ↔ byHart := by
      simp only [any_hartAddrs, inReservationSet_iff]
      rfl
    have device : ((deviceAddrs e).any fun a => inLrBytes v a || (e.dropResv && inReservationSet s.cfg v a)) = true ↔
        onLr ∨ (e.dropResv = true ∧ onSet) := by
      simp only [any_deviceAddrs, Bool.or_eq_true, Bool.and_eq_true, inLrBytes_iff, inReservationSet_iff]
      grind
    have ends : endedBy s.cfg e v = true ↔ byHart ∨ onLr ∨ (e.dropResv = true ∧ onSet) := by
      rw [endedBy, Bool.or_eq_true, hart, device]
    refine ⟨fun stored => ?_, fun noHart noLr noSet => ?_, fun noHart noLr inSet => ?_⟩
    · rw [after, if_pos (ends.2 (stored.imp_right .inl))]
    · rw [after, if_neg fun h => ?_]
      exact (ends.1 h).elim noHart fun h => h.elim noLr fun h => noSet h.2
    · rw [after]
      refine if_congr ?_ rfl rfl
      rw [ends]
      exact ⟨fun h => (h.resolve_left noHart).resolve_left noLr |>.1, fun drop => .inr (.inr ⟨drop, inSet⟩)⟩
  · intro t own put
    have placed : s.cfg.devicesPlaced = true ∧ own < s.cfg.harts := by
      simp only [Config.valid, Bool.and_eq_true, decide_eq_true_eq] at valid
      grind
    obtain ⟨placed, hart⟩ := placed
    have event {r : DevReg} {off : Nat} (at_reg : deviceAt s.cfg a 1 = some (r, off)) :=
      applyInput_single running unwalked io single at_reg
    refine ⟨fun k inside place => ?_, fun k inside place => ?_, fun place => ?_⟩
    · obtain ⟨v, mem, plat⟩ := event (place ▸ deviceAt_mtime (by decide) (by omega))
      refine ⟨?_, mem⟩
      rw [plat, setPlatform, mtime]
      exact toNat_byteWritten { s with resv := v } .mtime inside b
    · obtain ⟨v, mem, plat⟩ := event (place ▸ deviceAt_mtimecmp (by decide) placed hart (by omega))
      rw [deviceWrite_mtimecmp (s := { s with resv := v }) rfl] at mem plat
      refine ⟨?_, mem⟩
      rw [plat, setPlatform, mtimecmp]
      have written := toNat_byteWritten { s with resv := v } (.mtimecmp own) inside b
      rwa [deviceValue_mtimecmp (s := { s with resv := v }) rfl] at written
    · obtain ⟨v, mem, plat⟩ := event (place ▸ deviceAt_msip (off := 0) (by decide) placed hart (by decide))
      rw [deviceWrite_msip (s := { s with resv := v }) rfl] at mem plat
      refine ⟨?_, mem⟩
      rw [plat, setPlatform, msip]
      exact getLsbD_zero_writtenValue { s with resv := v } (.msip own) b []

end Sys2Proof.Machine
end

section
/-! PROOF. mtime, mtimecmp and msip as memory: a load gives the register's bytes, a store sets them (60_exceptions R852,
R853). -/

namespace Sys2Proof.Machine

/-! ### The reference layout -/

/-- What the reference configurations say of the timer's registers, with any number of harts that fits the region. -/
structure ReferenceTimer (c : Config) : Prop where
  region : ∃ widths, c.pma = [Config.ram, Config.timerRegion widths] ∧ 4 ∈ widths ∧ (c.rv64 = true → 8 ∈ widths)
  misaligned : c.misaligned = .addressMisaligned
  entries : c.pmpEntries = 16
  mtime : c.mtimeBase = 0x0200BFF8
  mtimecmp : c.mtimecmpBase = 0x02004000
  msip : c.msipBase = 0x02000000
  hart : c.mhartid = 0
  harts : c.harts ≤ 4095
  full : c.rve = false

theorem referenceTimer {c : Config} (layout : c = Config.reference ∨ c = Config.reference32) : ReferenceTimer c := by
  obtain rfl | rfl := layout
  · exact ⟨⟨[4, 8], rfl, by decide, fun _ => by decide⟩, rfl, rfl, rfl, rfl, rfl, rfl, by decide, rfl⟩
  · exact ⟨⟨[4], rfl, by decide, nofun⟩, rfl, rfl, rfl, rfl, rfl, rfl, by decide, rfl⟩

theorem referenceTimer_harts {k : Nat} (few : k ≤ 4095) : ReferenceTimer { Config.reference with harts := k } :=
  ⟨⟨[4, 8], rfl, by decide, fun _ => by decide⟩, rfl, rfl, rfl, rfl, rfl, rfl, few, rfl⟩

theorem timerRegion_base (widths : List Nat) : (Config.timerRegion widths).base = 0x02000000 := rfl

theorem timerRegion_size (widths : List Nat) : (Config.timerRegion widths).size = 0xC000 := rfl

theorem ram_base : Config.ram.base = 0x80000000 := rfl

theorem apart_iff {a n b m : Nat} : Config.apart a n b m = true ↔ a + n ≤ b ∨ b + m ≤ a := by
  rw [Config.apart, Bool.or_eq_true, decide_eq_true_eq, decide_eq_true_eq]

section
variable {c : Config} (timer : ReferenceTimer c)
include timer

theorem ReferenceTimer.inIo {a n : Nat} (low : 0x02000000 ≤ a) (high : a + n ≤ 0x0200C000) : c.inIo a n = true := by
  obtain ⟨widths, pma, -⟩ := timer.region
  refine List.any_eq_true.2 ⟨Config.timerRegion widths, by simp [pma], ?_⟩
  rw [Bool.and_eq_true, Bool.and_eq_true, decide_eq_true_eq, decide_eq_true_eq, timerRegion_base, timerRegion_size]
  exact ⟨⟨rfl, low⟩, by omega⟩

/-- The registers fit the region. -/
theorem ReferenceTimer.placed : c.devicesPlaced = true := by
  have io {a n : Nat} (low : 0x02000000 ≤ a) (high : a + n ≤ 0x0200C000) := timer.inIo low high
  have harts := timer.harts
  simp only [Config.devicesPlaced, Bool.and_eq_true, beq_iff_eq, apart_iff, timer.mtime, timer.mtimecmp, timer.msip]
  refine ⟨⟨⟨⟨⟨⟨⟨⟨by decide, by decide⟩, by decide⟩, io (by omega) (by omega)⟩, io (by omega) (by omega)⟩,
    io (by omega) (by omega)⟩, ?_⟩, ?_⟩, ?_⟩ <;> omega

/-- The region's bytes are the timer's. -/
theorem regionOf_timer {a n : Nat} (low : 0x02000000 ≤ a) (high : a + n ≤ 0x0200C000) :
    ∃ widths, regionOf c a n = some (Config.timerRegion widths) ∧ 4 ∈ widths ∧ (c.rv64 = true → 8 ∈ widths) := by
  obtain ⟨widths, pma, four, eight⟩ := timer.region
  refine ⟨widths, ?_, four, eight⟩
  have notRam : ¬ Config.ram.base ≤ a := by
    rw [ram_base]
    omega
  have inTimer : (Config.timerRegion widths).base ≤ a ∧
      a + n ≤ (Config.timerRegion widths).base + (Config.timerRegion widths).size := by
    rw [timerRegion_base, timerRegion_size]
    omega
  simp [regionOf, pma, notRam, inTimer]

theorem isIo_timer {a n : Nat} (low : 0x02000000 ≤ a) (high : a + n ≤ 0x0200C000) : isIo c a n = true := by
  obtain ⟨widths, region, -, -⟩ := regionOf_timer timer low high
  rw [isIo, region]
  rfl

/-- A load or store of a width the register supports, aligned in it, is allowed there. -/
theorem pmaAllows_timer {a n off : Nat} {u : PmaUse} {r : DevReg} (plain : u = .load ∨ u = .store)
    (low : 0x02000000 ≤ a) (high : a + n ≤ 0x0200C000) (at_reg : deviceAt c a n = some (r, off))
    (fits : deviceFits c r off n = true) (width : n = 4 ∨ (c.rv64 = true ∧ n = 8)) (aligned : a % n = 0) :
    pmaAllows c .pma a n n u = true := by
  obtain ⟨widths, region, four, eight⟩ := regionOf_timer timer low high
  have supported : n ∈ widths := by
    obtain rfl | ⟨wide, rfl⟩ := width
    exacts [four, eight wide]
  have whole : alignedPart a n n = true := by simp [alignedPart, aligned]
  obtain rfl | rfl := plain <;>
    simp [pmaAllows, attributes, region, override, regionAllows, deviceAllows, at_reg, fits, whole, timer.misaligned,
      Config.timerRegion, supported]

end

/-! ### Accesses of M-mode with no protection on -/

/-- M-mode accesses memory as M-mode, little-endian, and no PMP entry is on. -/
structure Unprotected (s : State) : Prop where
  machine : s.priv = .M
  notVirtual : s.virt = false
  noMprv : mstatusBit s MPRV = false
  little : mstatusBit s MBE = false
  synchronised : s.pmpStale = []
  off : ∀ i : Fin 64, pmpA (s.pmp.cfg.get i) = 0

theorem pmpCheck_off {c : Config} {p : Pmp} (entries : c.pmpEntries = 16) (off : ∀ i : Fin 64, pmpA (p.cfg.get i) = 0)
    (a n : Nat) (t : Acc) : pmpCheck c p a n t .M = true := by
  have untouched (i : Fin 64) : rangeTouches (pmpRange c p i) a n = false := by
    rw [pmpRange_off (off i)]
    simp [rangeTouches]
  rw [pmpCheck_eq_scan (by omega), pmpScan_of_untouched (by omega) (fun i _ => untouched i) le_rfl]
  rfl

section
variable {s : State} (plainly : Unprotected s) (timer : ReferenceTimer s.cfg)
include plainly

theorem Unprotected.effMode : effMode s .plain = (.M, false) := by
  simp [Machine.effMode, dataMode, plainly.noMprv, plainly.machine, plainly.notVirtual]

theorem Unprotected.viaBig : viaBig s .plain = false := by
  rw [Machine.viaBig, plainly.effMode]
  exact plainly.little

variable {u : PmaUse} {ea : Word} {n off : Nat} {r : DevReg} (low : 0x02000000 ≤ ea.toNat)
  (high : ea.toNat + n ≤ 0x0200C000) (at_reg : deviceAt s.cfg ea.toNat n = some (r, off))
  (fits : deviceFits s.cfg r off n = true) (width : n = 4 ∨ (s.cfg.rv64 = true ∧ n = 8)) (aligned : ea.toNat % n = 0)
include timer low high at_reg fits width aligned

theorem access_device (plain : u = .load ∨ u = .store) : access s .plain u ea n = .ok [(ea.toNat, n)] s := by
  have mode := plainly.effMode
  refine access_direct (by omega) aligned ?_ (pmaAllows_timer timer plain low high at_reg fits width aligned) ?_ ?_
  · have machine : (dataReq s .plain u ea ea).priv = .M := by rw [dataReq, mode]
    rw [translate, if_pos machine]
    rfl
  · rw [mode]
    exact pmpCheck_off timer.entries plainly.off ..
  · rw [mode]
    exact plainly.synchronised

/-- A load gives the register's value from the offset up. -/
theorem yields_device {i : Instr} {rd : Reg} (body : exec i s = run i s fun s => loadTo s .plain .load rd ea n true)
    (available : i.available s.cfg = true) :
    yields i s rd (extended s.cfg true n ((deviceValue s r).toNat / 2 ^ (8 * off))) := by
  have granted := access_device (u := .load) plainly timer low high at_reg fits width aligned (.inl rfl)
  have io := isIo_timer timer low high
  have read : readParts s [(ea.toNat, n)] = .ok (deviceRead s r off n) { s with draws := s.draws } := by
    simp [readParts, physRead, io, at_reg]
  obtain ⟨t, ran, wrote, went, rest⟩ := loadTo_granted (rd := rd) (signed := true) granted read
  have len : (orderBytes (viaBig s .plain) (deviceRead s r off n)).length ≤ 8 := by
    rw [length_orderBytes, deviceRead, length_bytesOf]
    omega
  have number : byteNumber (orderBytes (viaBig s .plain) (deviceRead s r off n)) =
      (deviceValue s r).toNat / 2 ^ (8 * off) % 2 ^ (8 * n) := by
    have pow : 256 ^ n = 2 ^ (8 * n) := by rw [Nat.pow_mul]
    rw [plainly.viaBig, deviceRead]
    change byteNumber (bytesOf n _) = _
    rw [byteNumber_bytesOf, BitVec.toNat_ushiftRight, Nat.shiftRight_eq_div_pow, pow]
  rw [wrap_loaded (by omega), toNat_ofBytes len, number] at wrote
  have value (x : Nat) : extended s.cfg true n (x % 2 ^ (8 * n)) = extended s.cfg true n x := by
    have same := bmod_natCast_mod x (2 ^ (8 * n))
    push_cast at same
    simp only [extended, if_true, Int.natCast_mod, Nat.cast_pow, Nat.cast_ofNat, same]
  rw [value] at wrote
  exact ⟨t, by rw [body, run_available available, ran]; rfl, wrote, nextPc_eq_ofXlen s ▸ went, rest⟩

/-- A store sets the bytes of the register from the offset up. -/
theorem exec_device_store {i : Instr} {v : Word} (body : exec i s = run i s fun s => storeFrom s .plain ea n v)
    (available : i.available s.cfg = true) : exec i s = .next (retire (deviceWrite s r off (bytesOf n v))) := by
  have granted := access_device (u := .store) plainly timer low high at_reg fits width aligned (.inr rfl)
  have len : (bytesOf n v).length = n := length_bytesOf ..
  have written := writeParts_one s ea.toNat (bytesOf n v)
  rw [physStore_device (by rw [len]; exact isIo_timer timer low high) (by rwa [len]), len] at written
  have ordered : orderBytes (viaBig s .plain) (bytesOf n v) = bytesOf n v := by
    rw [plainly.viaBig]
    rfl
  rw [body, run_available available, storeFrom_granted granted (by rwa [ordered])]
  rfl

end

/-! ### What a store to a register leaves unchanged -/

/-- A store to a register changes the platform, or the memory that holds another hart's register. -/
theorem deviceWrite_frame (s : State) (r : DevReg) (off : Nat) (bs : List Byte) :
    deviceWrite s r off bs = { s with plat := (deviceWrite s r off bs).plat, mem := (deviceWrite s r off bs).mem } := by
  unfold deviceWrite setDevice
  split
  · cases r <;> rfl
  · rfl

theorem retire_deviceWrite (s : State) (r : DevReg) (off : Nat) (bs : List Byte) :
    sameRegs s (retire (deviceWrite s r off bs)) ∧
      wentTo s (retire (deviceWrite s r off bs)) (ofXlen s.cfg (s.pc.toNat + 4)) ∧
      sameRest s { retire (deviceWrite s r off bs) with plat := s.plat } := by
  refine ⟨sameRegs_retire (deviceWrite_cfg ..) (deviceWrite_regs ..),
    nextPc_eq_ofXlen s ▸ wentTo_retire (deviceWrite_cfg ..) (deviceWrite_pc ..) (deviceWrite_m ..), ?_⟩
  have swap : { retire (deviceWrite s r off bs) with plat := s.plat } =
      retire { deviceWrite s r off bs with plat := s.plat } := by
    rw [retire_eq, retire_eq]
    rfl
  rw [swap]
  refine sameRest_retire ?_
  rw [deviceWrite_frame]
  rfl

/-! ### mtime and mtimecmp -/

/-- mtime, or the hart's own mtimecmp. -/
def timeReg (cmp : Bool) : DevReg := if cmp then .mtimecmp 0 else .mtime

/-- Its value. -/
def timeValue (s : State) (cmp : Bool) : BitVec 64 := if cmp then s.plat.mtimecmp else s.plat.mtime

/-- The accesses of them: the whole register at XLEN = 64, or a half. -/
def timeAccess (c : Config) (off n : Nat) : Prop := (c.rv64 = true ∧ off = 0 ∧ n = 8) ∨ ((off = 0 ∨ off = 4) ∧ n = 4)

theorem deviceFits_timeReg {c : Config} (cmp : Bool) {off n : Nat} (form : timeAccess c off n) :
    deviceFits c (timeReg cmp) off n = true := by
  obtain ⟨wide, rfl, rfl⟩ | ⟨rfl | rfl, rfl⟩ := form
  · cases cmp <;> simp [deviceFits, deviceWidth, timeReg, wide]
  all_goals cases cmp <;> rfl

section
variable {s : State} (timer : ReferenceTimer s.cfg) (cmp : Bool)
include timer

theorem own_hart : 0 = s.cfg.mhartid.toNat := by
  rw [timer.hart]
  rfl

theorem deviceValue_timeReg : deviceValue s (timeReg cmp) = timeValue s cmp := by
  cases cmp
  exacts [rfl, deviceValue_mtimecmp (own_hart timer)]

theorem deviceWrite_timeReg (off : Nat) (bs : List Byte) :
    deviceWrite s (timeReg cmp) off bs =
      { s with plat := if cmp then { s.plat with mtimecmp := writtenValue s (timeReg cmp) off bs }
                       else { s.plat with mtime := writtenValue s (timeReg cmp) off bs } } := by
  cases cmp
  exacts [rfl, deviceWrite_mtimecmp (own_hart timer) off bs]

/-- A store to one of them. -/
theorem timeReg_stored (off : Nat) (bs : List Byte) :
    let t := retire (deviceWrite s (timeReg cmp) off bs)
    timeValue t cmp = writtenValue s (timeReg cmp) off bs ∧
      t.plat = (if cmp then { s.plat with mtimecmp := t.plat.mtimecmp } else { s.plat with mtime := t.plat.mtime }) ∧
      sameRegs s t ∧ sameBytes s t ∧ wentTo s t (ofXlen s.cfg (s.pc.toNat + 4)) ∧ sameRest s { t with plat := s.plat } := by
  intro t
  obtain ⟨regs, went, rest⟩ := retire_deviceWrite s (timeReg cmp) off bs
  have plat : t.plat = if cmp then { s.plat with mtimecmp := writtenValue s (timeReg cmp) off bs }
      else { s.plat with mtime := writtenValue s (timeReg cmp) off bs } :=
    (retireTo_plat ..).trans (by rw [deviceWrite_timeReg timer])
  refine ⟨?_, ?_, regs, fun a => ?_, went, rest⟩
  · rw [timeValue, plat]
    cases cmp <;> rfl
  · rw [plat]
    cases cmp <;> rfl
  · have mem : t.mem = s.mem := (retireTo_mem ..).trans (by rw [deviceWrite_timeReg timer])
    rw [mem]

/-- Where it is. -/
def timeBase (c : Config) (cmp : Bool) : Nat := if cmp then c.mtimecmpBase else c.mtimeBase

theorem deviceAt_timeReg (alone : s.cfg.harts = 1) {off n : Nat} (pos : 0 < n) (inside : off + n ≤ 8) :
    deviceAt s.cfg (timeBase s.cfg cmp + off) n = some (timeReg cmp, off) := by
  cases cmp
  exacts [deviceAt_mtime pos inside, deviceAt_mtimecmp (h := 0) pos timer.placed (by omega) inside]

/-- Its bytes are in the region and aligned. -/
theorem timeAccess_placed {off n : Nat} (form : timeAccess s.cfg off n) :
    0x02000000 ≤ timeBase s.cfg cmp + off ∧ timeBase s.cfg cmp + off + n ≤ 0x0200C000 ∧
      (timeBase s.cfg cmp + off) % n = 0 := by
  have base : timeBase s.cfg cmp = 0x0200BFF8 ∨ timeBase s.cfg cmp = 0x02004000 := by
    cases cmp
    exacts [.inl timer.mtime, .inr timer.mtimecmp]
  obtain ⟨-, rfl, rfl⟩ | ⟨rfl | rfl, rfl⟩ := form <;> omega

variable (plainly : Unprotected s) (alone : s.cfg.harts = 1) {off n : Nat} {ea : Word} {i : Instr}
  (form : timeAccess s.cfg off n) (at_reg : ea.toNat = timeBase s.cfg cmp + off) (available : i.available s.cfg = true)
include plainly alone form at_reg available

theorem yields_time {rd : Reg} (body : exec i s = run i s fun s => loadTo s .plain .load rd ea n true) :
    yields i s rd (extended s.cfg true n ((timeValue s cmp).toNat / 2 ^ (8 * off))) := by
  obtain ⟨low, high, aligned⟩ := timeAccess_placed timer cmp form
  have found := deviceAt_timeReg timer cmp alone (n := n) (off := off)
  have fits := deviceFits_timeReg cmp form
  rw [← at_reg] at low high aligned found
  have loaded := yields_device plainly timer low high (found (by grind [timeAccess]) (by grind [timeAccess])) fits
    (by grind [timeAccess]) aligned body available
  rwa [deviceValue_timeReg timer] at loaded

theorem time_store_completes {v : Word} {value : Nat} (body : exec i s = run i s fun s => storeFrom s .plain ea n v)
    (combined : (timeValue s cmp).toNat % 2 ^ (8 * off) + 2 ^ (8 * off) * (v.toNat % 256 ^ n) +
      (timeValue s cmp).toNat / 2 ^ (8 * off + 8 * n) * 2 ^ (8 * off + 8 * n) = value) :
    ∃ t, exec i s = .next t ∧ (timeValue t cmp).toNat = value ∧
      t.plat = (if cmp then { s.plat with mtimecmp := t.plat.mtimecmp } else { s.plat with mtime := t.plat.mtime }) ∧
      sameRegs s t ∧ sameBytes s t ∧ wentTo s t (ofXlen s.cfg (s.pc.toNat + 4)) ∧ sameRest s { t with plat := s.plat } := by
  obtain ⟨low, high, aligned⟩ := timeAccess_placed timer cmp form
  have found := deviceAt_timeReg timer cmp alone (n := n) (off := off)
  have fits := deviceFits_timeReg cmp form
  rw [← at_reg] at low high aligned found
  have inside : off + n ≤ 8 := by grind [timeAccess]
  have ran := exec_device_store plainly timer low high (found (by grind [timeAccess]) inside) fits
    (by grind [timeAccess]) aligned body available
  obtain ⟨written, rest⟩ := timeReg_stored timer cmp off (bytesOf n v)
  have len : (bytesOf n v).length = n := length_bytesOf ..
  refine ⟨_, ran, ?_, rest⟩
  rw [written, toNat_writtenValue _ _ (by rwa [len]), deviceValue_timeReg timer, byteNumber_bytesOf, len, combined]

end

/-! ### msip -/

theorem and_one_eq (w : Word) : w &&& 1 = boolWord (w.getLsbD 0) := by
  refine BitVec.eq_of_getLsbD_eq fun k _ => ?_
  have one : (1 : Word).getLsbD k = decide (k = 0) := getLsbD_bitMask (i := 0) (by decide) k
  rw [BitVec.getLsbD_and, one]
  cases bit : w.getLsbD 0
  · by_cases zero : k = 0 <;> simp_all [boolWord]
  · by_cases zero : k = 0 <;> simp_all [boolWord]

theorem getLsbD_zero_boolWord (b : Bool) : (boolWord b).getLsbD 0 = b := by cases b <;> rfl

theorem getLsbD_zero_ofBytes (b : Byte) (bs : List Byte) : (ofBytes (b :: bs)).getLsbD 0 = b.getLsbD 0 := by
  simp [ofBytes]

/-- msip holds one bit. -/
theorem deviceValue_msip_eq (s : State) (h : Nat) :
    deviceValue s (.msip h) = boolWord ((deviceValue s (.msip h)).getLsbD 0) := by
  unfold deviceValue
  split
  · rw [getLsbD_zero_boolWord]
  · change _ &&& 1 = boolWord ((_ &&& 1 : Word).getLsbD 0)
    rw [and_one_eq, getLsbD_zero_boolWord]

theorem extended_boolWord (c : Config) (b : Bool) : extended c true 4 (boolWord b).toNat = boolWord b := by
  have small : (boolWord b).toNat < 2 ^ 31 := by cases b <;> decide
  have bmod : Int.bmod (boolWord b).toNat (2 ^ (8 * 4)) = (boolWord b).toNat := by cases b <;> decide
  rw [extended, if_pos rfl, bmod, ← wrap_eq_ofXlen c rfl, wrap_small (small.trans (by decide))]

section
variable {s : State} {h : Nat}

theorem deviceOwn_msip_other (other : h ≠ s.cfg.mhartid.toNat) : ¬ deviceOwn s.cfg (.msip h) = true := by
  simpa [deviceOwn] using other

theorem deviceValue_msip_other (other : h ≠ s.cfg.mhartid.toNat) :
    deviceValue s (.msip h) = ofBytes (Memory.readBytes s.mem (s.cfg.msipBase + 4 * h) 4) &&& 1 :=
  if_neg (deviceOwn_msip_other other)

theorem deviceWrite_msip_other (other : h ≠ s.cfg.mhartid.toNat) (off : Nat) (bs : List Byte) :
    deviceWrite s (.msip h) off bs = { s with
      mem := Memory.writeBytes s.mem (s.cfg.msipBase + 4 * h) (bytesOf 4 (writtenValue s (.msip h) off bs &&& 1)) } :=
  if_neg (deviceOwn_msip_other other)

variable {b : Byte} {bs : List Byte}

/-- The hart's own msip takes bit 0; no other register and no memory changes. -/
theorem msip_stored_own (own : h = s.cfg.mhartid.toNat) :
    let t := retire (deviceWrite s (.msip h) 0 (b :: bs))
    deviceValue t (.msip h) = boolWord (b.getLsbD 0) ∧ (∀ g, g ≠ h → deviceValue t (.msip g) = deviceValue s (.msip g)) ∧
      sameBytes s t ∧ t.plat = { s.plat with msip := b.getLsbD 0 } := by
  intro t
  have write := deviceWrite_msip own 0 (b :: bs)
  rw [getLsbD_zero_writtenValue] at write
  have cfg : t.cfg = s.cfg := (retireTo_cfg ..).trans (deviceWrite_cfg ..)
  have mem : t.mem = s.mem := (retireTo_mem ..).trans (by rw [write])
  have plat : t.plat = { s.plat with msip := b.getLsbD 0 } := (retireTo_plat ..).trans (by rw [write])
  refine ⟨?_, fun g other => ?_, fun a => by rw [mem], plat⟩
  · rw [deviceValue_msip (own.trans (by rw [cfg])), plat]
  · rw [own] at other
    rw [deviceValue_msip_other (by rwa [cfg]), deviceValue_msip_other other, cfg, mem]

/-- Another hart's takes bit 0 in its four bytes of memory. -/
theorem msip_stored_other (wf : Memory.wf s.mem = true) (other : h ≠ s.cfg.mhartid.toNat) :
    let t := retire (deviceWrite s (.msip h) 0 (b :: bs))
    deviceValue t (.msip h) = boolWord (b.getLsbD 0) ∧ (∀ g, g ≠ h → deviceValue t (.msip g) = deviceValue s (.msip g)) ∧
      t.plat = s.plat ∧ sameBytesOutside s t (s.cfg.msipBase + 4 * h) 4 := by
  intro t
  have write := deviceWrite_msip_other other 0 (b :: bs)
  rw [and_one_eq, getLsbD_zero_writtenValue] at write
  let bytes := bytesOf 4 (boolWord (b.getLsbD 0))
  have len : bytes.length = 4 := length_bytesOf ..
  have cfg : t.cfg = s.cfg := (retireTo_cfg ..).trans (deviceWrite_cfg ..)
  have mem : t.mem = Memory.writeBytes s.mem (s.cfg.msipBase + 4 * h) bytes := (retireTo_mem ..).trans (by rw [write])
  have plat : t.plat = s.plat := (retireTo_plat ..).trans (by rw [write])
  have outside : sameBytesOutside s t (s.cfg.msipBase + 4 * h) 4 := fun a apart => by
    rw [mem, memory_read_writeBytes wf, if_neg (by omega)]
  refine ⟨?_, fun g distinct => ?_, plat, outside⟩
  · have read : Memory.readBytes t.mem (s.cfg.msipBase + 4 * h) 4 = bytes := by
      have written := readBytes_writeBytes wf (s.cfg.msipBase + 4 * h) bytes
      rwa [len, ← mem] at written
    have bit : (ofBytes bytes).getLsbD 0 = b.getLsbD 0 := by
      refine (getLsbD_zero_ofBytes ..).trans ?_
      cases b.getLsbD 0 <;> rfl
    rw [deviceValue_msip_other (by rwa [cfg]), cfg, read, and_one_eq, bit]
  · by_cases own : g = s.cfg.mhartid.toNat
    · rw [deviceValue_msip own, deviceValue_msip (own.trans (by rw [cfg])), plat]
    · rw [deviceValue_msip_other (by rwa [cfg]), deviceValue_msip_other own, cfg]
      rw [readBytes_congr 4 fun k small => outside (s.cfg.msipBase + 4 * g + k) (by omega)]

end

/-- At XLEN = 64 a doubleword is a register value as it is. -/
theorem extended_whole {c : Config} (wide : c.rv64 = true) (v : Word) : extended c true 8 v.toNat = v := by
  rw [← wrap_loaded (.inr (.inr (.inr rfl)))]
  simp [wrap, wide, sextBytes]

theorem reg_exists_of_full {c : Config} (full : c.rve = false) (r : Reg) : r.exists c = true := by
  simp [Reg.exists, full]

/-- Settles O12. -/
theorem deviceRegistersInMemory : Obligations.DeviceRegistersInMemory := by
  unfold Obligations.DeviceRegistersInMemory
  refine ⟨fun s rd rs1 rs2 imm cmp layout machine notVirtual noMprv little synchronised off => ?_,
    fun s rd rs1 rs2 imm k h layout hart few wf machine notVirtual noMprv little synchronised off at_reg => ?_⟩
  · intro base old stores
    have timer := referenceTimer layout
    have plainly : Unprotected s := ⟨machine, notVirtual, noMprv, little, synchronised, off⟩
    have alone : s.cfg.harts = 1 := by obtain layout | layout := layout <;> rw [layout] <;> rfl
    have bound := old.isLt
    have present (r : Reg) := reg_exists_of_full timer.full r
    have value_eq : timeValue s cmp = old := rfl
    refine ⟨fun wide at_base => ⟨?_, ?_⟩, fun at_base => ⟨?_, ?_⟩, fun at_half => ⟨?_, ?_⟩⟩
    · have loaded := yields_time timer cmp plainly alone (.inl ⟨wide, rfl, rfl⟩) at_base
        (i := .ld rd rs1 imm) (rd := rd) (by simp [Instr.available, Instr.implemented, Instr.regs, wide, present]) rfl
      rwa [Nat.mul_zero, Nat.pow_zero, Nat.div_one, extended_whole wide] at loaded
    · refine time_store_completes timer cmp plainly alone (.inl ⟨wide, rfl, rfl⟩) at_base
        (i := .sd rs1 rs2 imm) (by simp [Instr.available, Instr.implemented, Instr.regs, wide, present]) rfl ?_
      have := (rX s rs2).isLt
      rw [value_eq]
      omega
    · have loaded := yields_time timer cmp plainly alone (.inr ⟨.inl rfl, rfl⟩) at_base
        (i := .lw rd rs1 imm) (rd := rd) (by simp [Instr.available, Instr.implemented, Instr.regs, present]) rfl
      rwa [Nat.mul_zero, Nat.pow_zero, Nat.div_one] at loaded
    · refine time_store_completes timer cmp plainly alone (.inr ⟨.inl rfl, rfl⟩) at_base
        (i := .sw rs1 rs2 imm) (by simp [Instr.available, Instr.implemented, Instr.regs, present]) rfl ?_
      rw [value_eq]
      omega
    · exact yields_time timer cmp plainly alone (.inr ⟨.inr rfl, rfl⟩) at_half
        (i := .lw rd rs1 imm) (rd := rd) (by simp [Instr.available, Instr.implemented, Instr.regs, present]) rfl
    · refine time_store_completes timer cmp plainly alone (.inr ⟨.inr rfl, rfl⟩) at_half
        (i := .sw rs1 rs2 imm) (by simp [Instr.available, Instr.implemented, Instr.regs, present]) rfl ?_
      rw [value_eq]
      omega
  · have timer : ReferenceTimer s.cfg := layout ▸ referenceTimer_harts few
    have plainly : Unprotected s := ⟨machine, notVirtual, noMprv, little, synchronised, off⟩
    have harts : s.cfg.harts = k := by rw [layout]
    have present (r : Reg) := reg_exists_of_full timer.full r
    have base := timer.msip
    have low : 0x02000000 ≤ (effAddr s rs1 imm).toNat := by omega
    have high : (effAddr s rs1 imm).toNat + 4 ≤ 0x0200C000 := by omega
    have aligned : (effAddr s rs1 imm).toNat % 4 = 0 := by omega
    have found : deviceAt s.cfg (effAddr s rs1 imm).toNat 4 = some (.msip h, 0) := by
      rw [at_reg]
      exact deviceAt_msip (off := 0) (by decide) timer.placed (by omega) (by decide)
    refine ⟨?_, ?_⟩
    · have loaded := yields_device plainly timer low high found rfl (.inl rfl) aligned
        (i := .lw rd rs1 imm) (rd := rd) rfl (by simp [Instr.available, Instr.implemented, Instr.regs, present])
      rwa [Nat.mul_zero, Nat.pow_zero, Nat.div_one, deviceValue_msip_eq, extended_boolWord, ← deviceValue_msip_eq] at loaded
    · have ran := exec_device_store plainly timer low high found rfl (.inl rfl) aligned
        (i := .sw rs1 rs2 imm) (v := rX s rs2) rfl (by simp [Instr.available, Instr.implemented, Instr.regs, present])
      obtain ⟨regs, went, rest⟩ := retire_deviceWrite s (.msip h) 0 (bytesOf 4 (rX s rs2))
      have bit : ((rX s rs2).setWidth 8 : Byte).getLsbD 0 = (rX s rs2).getLsbD 0 := by simp
      rw [and_one_eq, ← bit]
      refine ⟨_, ran, ?_⟩
      by_cases own : h = 0
      · obtain ⟨value, others, bytes, plat⟩ := msip_stored_own (s := s) (b := (rX s rs2).setWidth 8)
          (bs := bytesOf 3 (rX s rs2 >>> 8)) (own.trans (own_hart timer))
        exact ⟨value, others, fun _ => ⟨bytes, plat⟩, fun other => absurd own other, regs, went, rest⟩
      · obtain ⟨value, others, plat, outside⟩ := msip_stored_other (b := (rX s rs2).setWidth 8)
          (bs := bytesOf 3 (rX s rs2 >>> 8)) wf fun same => own (same.trans (own_hart timer).symm)
        exact ⟨value, others, fun zero => absurd zero own, fun _ => ⟨plat, outside⟩, regs, went, rest⟩

end Sys2Proof.Machine
end
